-- ==== Sys2Proof/Word.lean ====
section
/-! DEFINITION. The plain words of the Q512: bytes of the serial lines, and the numbers by which
the manual names points, ports, tags and conversions. -/

namespace Sys2Proof

/-- One byte of a command port or a sample link (R197). -/
abbrev Byte := BitVec 8

/-- A point number, 0 to 511 (Conventions of 00_scope.md). -/
abbrev PointNo := Fin 512

/-- A sample-port number, 0 to 3 (chapter 5). -/
abbrev PortNo := Fin 4

/-- A tag: the 32-bit name of a point (R1). -/
abbrev Tag := BitVec 32

/-- A sequence number of a sample link, 0 to 15, wrapping (R88). -/
abbrev Seq := BitVec 4

end Sys2Proof
end

