-- ==== Sys2Proof/Config.lean ====
section
/-! DEFINITION. The fixed numbers of silicon revision 1: capacities, timer lengths and identity.
The model counts time in ticks of 10 µs, the finest unit the manual gives a timer in. -/

namespace Sys2Proof
namespace Config

/-- Entries of a routine list, active or staged (R55). -/
def routineCapacity : Nat := 256

/-- Entries of the priority list (R55). -/
def priorityCapacity : Nat := 16

/-- Entries of the condition list (R120). -/
def conditionCapacity : Nat := 64

/-- Records of the hold table (R145). -/
def holdCapacity : Nat := 8

/-- Longest parameter field of a command frame (R165). -/
def maxParameters : Nat := 40

/-- Ticks of the fixed 2 ms probe timer (R84). -/
def probeTicks : Nat := 200

/-- Ticks of the fixed 10 ms wake guard (R186). -/
def wakeGuardTicks : Nat := 1000

/-- Ticks in one 100 µs unit of the cycle period (R53). -/
def periodUnit : Nat := 10

/-- Ticks in one 1 ms unit of hold time (R145). -/
def holdUnit : Nat := 100

/-- The period after power-on and RESET_N, in units of 100 µs (R53). -/
def initialPeriod : Nat := 10000

/-- The timeout T after power-on and RESET_N, in units of 10 µs (R84). -/
def initialTimeout : Nat := 100

/-- The attention mask after power-on and RESET_N: UNACKED, OVERFLOW and PORT_FAULT (R179, R202). -/
def initialMask : BitVec 7 := 0x07#7

/-- The lowest engineering value (Conventions of 00_scope.md). -/
def engMin : Int := -8388608

/-- The highest engineering value (Conventions of 00_scope.md). -/
def engMax : Int := 8388607

/-- The vendor code of IDENTIFY (R177). -/
def vendorCode : Byte := 0xB7#8

/-- The part code of IDENTIFY (R177). -/
def partCode : BitVec 16 := 0x5120#16

/-- The silicon revision of IDENTIFY (R177). -/
def siliconRevision : Byte := 1#8

/-- The I2C address sampled with ADDR low (R164). -/
def i2cAddressLow : BitVec 7 := 0x48#7

/-- The I2C address sampled with ADDR high (R164). -/
def i2cAddressHigh : BitVec 7 := 0x49#7

end Config
end Sys2Proof
end

