-- ==== Sys2Proof/Syntax.lean ====
section
/-! DEFINITION. The steps of the part: one constructor of `Instr` per row of spec/opcode_table.json.
The forty commands stand for their execution by the executor (R172), the other rows for the
arrival of a frame, a fetch, a sample-link message, a timer expiry or a pin event. -/

namespace Sys2Proof

/-- The two command ports: HOST speaks SPI, SERVICE speaks I2C (R162). -/
inductive CmdPort where
  | host
  | service
  deriving DecidableEq, Repr

/-- The bus a transaction comes over: the SPI lines of the host port, or the I2C lines with the
7-bit address the master sent (R163, R164). -/
inductive Bus where
  | spi
  | i2c (address : BitVec 7)
  deriving DecidableEq, Repr

/-- The range flag of a RESULT: NONE, OVER or UNDER (R86). -/
inductive RangeFlag where
  | inRange
  | over
  | under
  deriving DecidableEq, Repr

/-- The two edges of RESET_N: `fall` asserts it, `rise` releases it with the level the ADDR pin then
has (R164, R196). -/
inductive ResetEdge where
  | fall
  | rise (addrHigh : Bool)
  deriving DecidableEq, Repr

/-- The forty commands of R201, by name. -/
inductive Cmd where
  | define | find | readProfile | readValue | edit | activate | park | unpark | retire | readChanged
  | hold | release
  | rlistInsert | rlistRemove | rlistClear | rlistRead | plistSet | plistRead
  | scanStart | scanStop | scanHalt | skipPass | runPriority | abortPoint | scanConfig | scanStatus
  | condRead | ack | ackUpto | condClear
  | portConfig | portRestore | portStatus
  | status | clearFlags | attnMask | identify | enterQuiet | exitQuiet | softReset
  deriving DecidableEq, Repr

/-- One step of the part. A command row carries the command port whose waiting command the executor
takes and the parameter bytes of that command, as they crossed the port (R198, R201). -/
inductive Instr where
  -- the table group
  | define (port : CmdPort) (params : List Byte)
  | find (port : CmdPort) (params : List Byte)
  | readProfile (port : CmdPort) (params : List Byte)
  | readValue (port : CmdPort) (params : List Byte)
  | edit (port : CmdPort) (params : List Byte)
  | activate (port : CmdPort) (params : List Byte)
  | park (port : CmdPort) (params : List Byte)
  | unpark (port : CmdPort) (params : List Byte)
  | retire (port : CmdPort) (params : List Byte)
  | readChanged (port : CmdPort) (params : List Byte)
  -- the access group
  | hold (port : CmdPort) (params : List Byte)
  | release (port : CmdPort) (params : List Byte)
  -- the list group
  | rlistInsert (port : CmdPort) (params : List Byte)
  | rlistRemove (port : CmdPort) (params : List Byte)
  | rlistClear (port : CmdPort) (params : List Byte)
  | rlistRead (port : CmdPort) (params : List Byte)
  | plistSet (port : CmdPort) (params : List Byte)
  | plistRead (port : CmdPort) (params : List Byte)
  -- the scan group
  | scanStart (port : CmdPort) (params : List Byte)
  | scanStop (port : CmdPort) (params : List Byte)
  | scanHalt (port : CmdPort) (params : List Byte)
  | skipPass (port : CmdPort) (params : List Byte)
  | runPriority (port : CmdPort) (params : List Byte)
  | abortPoint (port : CmdPort) (params : List Byte)
  | scanConfig (port : CmdPort) (params : List Byte)
  | scanStatus (port : CmdPort) (params : List Byte)
  -- the condition group
  | condRead (port : CmdPort) (params : List Byte)
  | ack (port : CmdPort) (params : List Byte)
  | ackUpto (port : CmdPort) (params : List Byte)
  | condClear (port : CmdPort) (params : List Byte)
  -- the port group
  | portConfig (port : CmdPort) (params : List Byte)
  | portRestore (port : CmdPort) (params : List Byte)
  | portStatus (port : CmdPort) (params : List Byte)
  -- the device group
  | status (port : CmdPort) (params : List Byte)
  | clearFlags (port : CmdPort) (params : List Byte)
  | attnMask (port : CmdPort) (params : List Byte)
  | identify (port : CmdPort) (params : List Byte)
  | enterQuiet (port : CmdPort) (params : List Byte)
  | exitQuiet (port : CmdPort) (params : List Byte)
  | softReset (port : CmdPort) (params : List Byte)
  /-- A taken command whose opcode byte names no command (R173). -/
  | unknownOpcode (port : CmdPort) (opcode : Byte) (params : List Byte)
  /-- A transaction that writes the given bytes to a command port has ended (R163 to R167). -/
  | commandFrame (bus : Bus) (bytes : List Byte)
  /-- A fetch begins (R168, R169). -/
  | fetch (bus : Bus)
  /-- The fetch in progress ends after that many response bytes were shifted out or read (R168). -/
  | fetchEnd (port : CmdPort) (delivered : Nat)
  /-- A RESULT message arrives on a sample link (R90, R93, R96). -/
  | result (port : PortNo) (seq : Seq) (code : BitVec 16) (range : RangeFlag)
  /-- A CANCEL_ACK message arrives (R93, R96). -/
  | cancelAck (port : PortNo) (seq : Seq)
  /-- A PRESENT message arrives (R97, R96). -/
  | present (port : PortNo) (cls : Fin 16)
  /-- A burst arrives that is no undamaged message of R204 (R96). -/
  | damagedMessage (port : PortNo) (burst : List Byte)
  /-- The conversion timer expires in BUSY (R91). -/
  | timeout (port : PortNo)
  /-- The conversion timer expires in CANCELLING (R94). -/
  | cancelTimerExpiry (port : PortNo)
  /-- The probe timer expires (R98). -/
  | probeTimerExpiry (port : PortNo)
  /-- The period timer expires (R70, R71). -/
  | periodTick
  /-- The remaining time of the hold on that point runs out (R149). -/
  | holdExpiry (point : PointNo)
  /-- The wake-guard timer expires (R190). -/
  | wakeGuardExpiry
  /-- A rising edge on PTRIG (R76). -/
  | ptrig
  /-- The end of power-on, with the level of the ADDR pin (R164, R196). -/
  | powerOn (addrHigh : Bool)
  /-- An edge of RESET_N (R196). -/
  | resetN (edge : ResetEdge)
  deriving DecidableEq, Repr

end Sys2Proof
end

