-- ==== Sys2Proof/Machine/Store.lean ====
section
/-! DEFINITION. A fixed number of like things: the record table, the bucket heads, the change-set
marks and the sample ports are each a `Table`, a list that carries its own length; `Both` keeps one
thing for each command port. -/

namespace Sys2Proof.Machine

/-- `n` things of one type, numbered 0 to `n - 1`. -/
structure Table (α : Type) (n : Nat) where
  list : List α
  length_eq : list.length = n
  deriving DecidableEq, Repr

/-- The thing with number `i`. -/
def Table.get {α : Type} {n : Nat} (t : Table α n) (i : Fin n) : α :=
  t.list[i.val]'(by rw [t.length_eq]; exact i.isLt)

/-- The table with `x` at number `i`. -/
def Table.set {α : Type} {n : Nat} (t : Table α n) (i : Fin n) (x : α) : Table α n :=
  ⟨t.list.set i.val x, by rw [List.length_set, t.length_eq]⟩

/-- The table with `x` at every number. -/
def Table.replicate {α : Type} (n : Nat) (x : α) : Table α n :=
  ⟨List.replicate n x, List.length_replicate⟩

/-- The table with `f` applied at every number. -/
def Table.map {α β : Type} {n : Nat} (f : α → β) (t : Table α n) : Table β n :=
  ⟨t.list.map f, by rw [List.length_map, t.length_eq]⟩

/-- The numbers at which `f` holds, in rising order. -/
def Table.indices {α : Type} {n : Nat} (t : Table α n) (f : α → Bool) : List (Fin n) :=
  (((List.finRange n).zip t.list).filter fun x => f x.2).map fun x => x.1

/-- The lowest number at which `f` holds. -/
def Table.first {α : Type} {n : Nat} (t : Table α n) (f : α → Bool) : Option (Fin n) :=
  (((List.finRange n).zip t.list).find? fun x => f x.2).map fun x => x.1

/-- How many numbers have `f`. -/
def Table.count {α : Type} {n : Nat} (t : Table α n) (f : α → Bool) : Nat :=
  t.list.countP f

/-- Whether some number has `f`. -/
def Table.any {α : Type} {n : Nat} (t : Table α n) (f : α → Bool) : Bool :=
  t.list.any f

/-- One thing for each command port. -/
structure Both (α : Type) where
  host : α
  service : α
  deriving DecidableEq, Repr

/-- The thing of command port `p`. -/
def Both.get {α : Type} (b : Both α) : CmdPort → α
  | .host => b.host
  | .service => b.service

/-- The pair with `x` for command port `p`. -/
def Both.set {α : Type} (b : Both α) (p : CmdPort) (x : α) : Both α :=
  match p with
  | .host => { b with host := x }
  | .service => { b with service := x }

/-- The pair with `f` applied on both sides. -/
def Both.map {α : Type} (f : α → α) (b : Both α) : Both α :=
  { host := f b.host, service := f b.service }

end Sys2Proof.Machine
end

