-- ==== Sys2Proof/Machine/State.lean ====
section
/-! DEFINITION. Everything the manual gives the Q512 to hold, block by block, as plain data, and the
state right after reset. INVENTORY.md lists each item with its rule and its reset value. -/

namespace Sys2Proof.Machine

/-- Point states (R9). -/
inductive PointState where
  | free | draft | live | parked | retiring
  deriving DecidableEq, Repr

/-- Qualities of a value (R6). -/
inductive Quality where
  | unscanned | good | overrange | portFault | stale
  deriving DecidableEq, Repr

/-- Condition levels (R8). -/
inductive Level where
  | normal | lowWarn | lowTrip | highWarn | highTrip
  deriving DecidableEq, Repr

/-- Outcomes of a list entry (R56). -/
inductive EntryOutcome where
  | none | pending | inFlight | done | faulted | skipped | cancelled
  deriving DecidableEq, Repr

/-- The two condition classes of a POLICY group (R3). -/
inductive CondClass where
  | notify | latch
  deriving DecidableEq, Repr

/-- Scan modes (R53). -/
inductive ScanMode where
  | oneShot | cyclic
  deriving DecidableEq, Repr

/-- Scanner states (R53). -/
inductive ScannerState where
  | idle | pass | gap
  deriving DecidableEq, Repr

/-- Operating modes (R186). -/
inductive Mode where
  | quiet | waking | active | quiescing
  deriving DecidableEq, Repr

/-- Which list a conversion was dispatched from (R66). -/
inductive Origin where
  | routine | priority
  deriving DecidableEq, Repr

/-- Response statuses (R175). -/
inductive Status where
  | ok | busy | quiet | noPoint | noTag | tagInUse | tableFull | badState | revision | held
  | badParam | badBand | listFull | duplicate | notListed | noHoldSpace | expired | notHeld
  | unknown | frame | abandoned | notReady
  deriving DecidableEq, Repr

/-- The ROUTE group of a profile (R3). -/
structure Route where
  port : PortNo
  channel : Fin 64
  settle : Fin 16
  deriving DecidableEq, Repr

/-- The SCALE group: gain −32768 to 32767, offset an engineering value, smoothing weight (R3). -/
structure Scale where
  gain : Int
  offset : Int
  weight : Fin 8
  deriving DecidableEq, Repr

/-- The BAND group: four limits, each absent or an engineering value, and the hysteresis 0 to 65535
(R3). -/
structure Band where
  loTrip : Option Int
  loWarn : Option Int
  hiWarn : Option Int
  hiTrip : Option Int
  hysteresis : Nat
  deriving DecidableEq, Repr

/-- The POLICY group: confirm count 1 to 8, class, stale limit 0 to 255 (R3). -/
structure Policy where
  confirm : Nat
  cls : CondClass
  staleLimit : Nat
  deriving DecidableEq, Repr

/-- A profile, active or staged (R3, R5). -/
structure Profile where
  route : Route
  scale : Scale
  band : Band
  policy : Policy
  deriving DecidableEq, Repr

/-- The default profile of R3. -/
def Profile.default : Profile where
  route := ⟨0, 0, 0⟩
  scale := ⟨4096, 0, 0⟩
  band := ⟨none, none, none, none, 0⟩
  policy := ⟨1, .notify, 0⟩

/-- One record of the point table: identity (R1), the two profiles (R3, R5), value part (R6, R7)
and condition part (R8). -/
structure Point where
  state : PointState
  tag : Tag
  revision : BitVec 16
  next : Option PointNo
  active : Profile
  staged : Option Profile
  raw : BitVec 16
  value : Int
  quality : Quality
  age : Nat
  seeded : Bool
  inFlight : Option PortNo
  level : Level
  candidate : Option Level
  confirmCounter : Nat
  peak : Level
  unlisted : Bool
  deriving DecidableEq, Repr

/-- A record after power-on and RESET_N (R1, R3, R5, R6, R8). -/
def Point.initial : Point where
  state := .free
  tag := 0#32
  revision := 0#16
  next := none
  active := Profile.default
  staged := none
  raw := 0#16
  value := 0
  quality := .unscanned
  age := 0
  seeded := false
  inFlight := none
  level := .normal
  candidate := none
  confirmCounter := 0
  peak := .normal
  unlisted := false

/-- An entry of the active routine list or of the priority list (R55). -/
structure Entry where
  point : PointNo
  outcome : EntryOutcome
  deriving DecidableEq, Repr

/-- The scan engine (R53, R54, R55). The routine and priority cursors are read off the lists, as R57
gives them; the sticky flags of the engine are held by the attention logic (R180). -/
structure Scan where
  scanner : ScannerState
  scanMode : ScanMode
  stopRequested : Bool
  late : Bool
  /-- In units of 100 µs. -/
  period : Nat
  /-- Ticks left of the interval in progress; `none` is a stopped timer. -/
  periodTimer : Option Nat
  passCounter : BitVec 16
  active : List Entry
  /-- The staged routine list: absent, or present and perhaps empty (R48). -/
  staged : Option (List PointNo)
  prioActive : Bool
  rerun : Bool
  trigger : Bool
  prio : List Entry
  /-- The level the CYM output is driven to out of reset (R82). -/
  cym : Bool
  deriving DecidableEq, Repr

/-- The scan engine after power-on and RESET_N (R53 to R55, R82). -/
def Scan.initial : Scan where
  scanner := .idle
  scanMode := .oneShot
  stopRequested := false
  late := false
  period := Config.initialPeriod
  periodTimer := none
  passCounter := 0#16
  active := []
  staged := none
  prioActive := false
  rerun := false
  trigger := false
  prio := []
  cym := false

/-- A message the Q512 sends on a sample link (R86). -/
inductive LinkTx where
  | convert (seq : Seq) (channel : Fin 64) (settle : Fin 16)
  | cancel (seq : Seq)
  | probe
  deriving DecidableEq, Repr

/-- The outstanding record of a sample port (R87). -/
structure ConvRecord where
  point : PointNo
  seq : Seq
  origin : Origin
  superseded : Bool
  cancelled : Bool
  /-- In units of 10 µs. -/
  timerLength : Nat
  deriving DecidableEq, Repr

/-- A port state together with what R85 gives exactly that state: the probe timer in PROBING, the
outstanding record and the conversion timer in BUSY and CANCELLING. `left` counts the ticks the
timer has left. -/
inductive Phase where
  | offline
  | probing (left : Nat)
  | idle
  | busy (record : ConvRecord) (left : Nat)
  | cancelling (record : ConvRecord) (left : Nat)
  | faulted
  deriving DecidableEq, Repr

/-- One sample port (R84). -/
structure SamplePort where
  phase : Phase
  enable : Bool
  /-- T, in units of 10 µs. -/
  timeout : Nat
  seqCounter : Seq
  timeoutCount : Nat
  strayCount : Nat
  cls : Option (Fin 16)
  absent : Bool
  /-- MODEL'S OWN: the messages this port has sent, oldest first. Nothing in the part reads it. -/
  sent : List LinkTx
  deriving DecidableEq, Repr

/-- A sample port after power-on and RESET_N (R84). -/
def SamplePort.initial : SamplePort where
  phase := .offline
  enable := false
  timeout := Config.initialTimeout
  seqCounter := 0#4
  timeoutCount := 0
  strayCount := 0
  cls := none
  absent := false
  sent := []

/-- An entry of the condition list (R119). -/
structure CondEntry where
  point : PointNo
  seq : BitVec 32
  level : Level
  peak : Level
  acknowledged : Bool
  repeats : Nat
  deriving DecidableEq, Repr

/-- The shared part of the condition unit (R118). -/
structure CondUnit where
  list : List CondEntry
  raiseSeq : BitVec 32
  deriving DecidableEq, Repr

/-- A hold record (R145). `left` counts the remaining time in ticks, finer than 1 ms (R146). -/
structure HoldRecord where
  port : CmdPort
  point : PointNo
  left : Nat
  deriving DecidableEq, Repr

/-- The change set of a command port with its cursor (R155). -/
structure ChangeSet where
  members : Table Bool 512
  cursor : PointNo
  deriving DecidableEq, Repr

/-- An empty change set with its cursor at 0 (R155). -/
def ChangeSet.initial : ChangeSet where
  members := Table.replicate 512 false
  cursor := 0

/-- A valid command frame: opcode and parameters (R198). -/
structure Frame where
  opcode : Byte
  params : List Byte
  deriving DecidableEq, Repr

/-- A response frame: status, overlap mark and data (R174). -/
structure Response where
  status : Status
  overlap : Bool
  data : List Byte
  deriving DecidableEq, Repr

/-- A port state together with the receive frame that is present exactly in WAITING and the response
buffer that is present exactly in DONE (R162). -/
inductive CmdPortState where
  | ready
  | waiting (frame : Frame)
  | done (response : Response)
  deriving DecidableEq, Repr

/-- A fetch in progress (R168, R169): the response frame being returned, and whether it is the one
still in the response buffer. -/
structure FetchInProgress where
  bytes : List Byte
  fromBuffer : Bool
  deriving DecidableEq, Repr

/-- One command port (R162). -/
structure CommandPort where
  state : CmdPortState
  overlap : Bool
  lastExpired : Option PointNo
  fetching : Option FetchInProgress
  /-- MODEL'S OWN: the bytes the port sent back in the transaction that ended last (R200). -/
  shifted : List Byte
  deriving DecidableEq, Repr

/-- A command port after power-on and RESET_N (R162). -/
def CommandPort.initial : CommandPort where
  state := .ready
  overlap := false
  lastExpired := none
  fetching := none
  shifted := []

/-- The attention logic: the mask and the four sticky flags (R180). -/
structure Attention where
  mask : BitVec 7
  overrun : Bool
  prioDone : Bool
  prioLost : Bool
  holdExpired : Bool
  deriving DecidableEq, Repr

/-- The attention logic after power-on and RESET_N (R179, R180). -/
def Attention.initial : Attention where
  mask := Config.initialMask
  overrun := false
  prioDone := false
  prioLost := false
  holdExpired := false

/-- Run control (R186). The wake guard holds the ticks left; `none` is a stopped timer. -/
structure RunControl where
  mode : Mode
  wakeGuard : Option Nat
  deriving DecidableEq, Repr

/-- The state of the part. -/
structure State where
  /-- The point table (R1 to R8). -/
  points : Table Point 512
  /-- The bucket heads of the tag index (R23). -/
  heads : Table (Option PointNo) 256
  /-- The scan engine (R53 to R55). -/
  scan : Scan
  /-- The sample ports (R84). -/
  ports : Table SamplePort 4
  /-- The condition list and the raise-sequence counter (R118). -/
  cond : CondUnit
  /-- The hold table (R145). -/
  holds : List HoldRecord
  /-- The change sets (R155). -/
  changed : Both ChangeSet
  /-- The command ports (R162). -/
  cmdPorts : Both CommandPort
  /-- The port the executor served last (R171). -/
  servedLast : CmdPort
  /-- The attention logic (R180). -/
  attn : Attention
  /-- Run control (R186). -/
  run : RunControl
  /-- The 7-bit I2C address chosen by the sampled ADDR pin (R164). -/
  i2cAddress : BitVec 7
  /-- MODEL'S OWN: the acknowledge bits the I2C target gave in the last transaction on its bus out of reset, of
  the address first and then of each byte written (R164). Nothing in the part reads it. -/
  i2cAcks : List Bool
  /-- RESET_N is held low (R196). -/
  inReset : Bool
  /-- Power is coming up: the end of power-on is still to come (R196). -/
  poweringUp : Bool
  /-- MODEL'S OWN: the steps waiting to be taken, first in, first out. -/
  pending : List Instr
  deriving DecidableEq, Repr

/-- The part right after the end of power-on with the ADDR pin low and nothing pending (R196).
DESIGN CHOICE, unsafe (log entry 1): the manual leaves the level of ADDR to the board. -/
def State.reset : State where
  points := Table.replicate 512 Point.initial
  heads := Table.replicate 256 none
  scan := Scan.initial
  ports := Table.replicate 4 SamplePort.initial
  cond := ⟨[], 0#32⟩
  holds := []
  changed := ⟨ChangeSet.initial, ChangeSet.initial⟩
  cmdPorts := ⟨CommandPort.initial, CommandPort.initial⟩
  servedLast := .service
  attn := Attention.initial
  run := ⟨.quiet, none⟩
  i2cAddress := Config.i2cAddressLow
  i2cAcks := []
  inReset := false
  poweringUp := false
  pending := []

/-- The reasons a step stops with a fault. There is none: the manual gives every step of the table
its effect in every state and calls no behaviour undefined. -/
inductive Fault where
  deriving DecidableEq, Repr

/-- The reasons a step is refused. -/
inductive Refusal where
  /-- Raised by `exec` for a row whose meaning is not written; safe. No row is left without one. -/
  | notModelled (mnemonic : String)
  deriving DecidableEq, Repr

/-- What a step answers. -/
abbrev StepOutcome := Host.Outcome State Fault Refusal

end Sys2Proof.Machine
end

