-- ==== Sys2Proof/Machine/Formats.lean ====
section
/-! DEFINITION. The byte layouts of chapter 12: field encodings, the CRC-8, command and response
frames, opcodes, status and enumeration codes, and the bursts of the sample links. -/

namespace Sys2Proof.Machine

/-! ### Fields (R197, R203) -/

/-- A number within 0 to 255 as one byte. -/
def byteOf (n : Nat) : Byte := BitVec.ofNat 8 n

/-- A flag: 00h for clear or off, 01h for set or on (R197). -/
def flagByte (b : Bool) : Byte := if b then 0x01#8 else 0x00#8

/-- A 16-bit field, most significant byte first. -/
def bytes16 (w : BitVec 16) : List Byte := [w.extractLsb' 8 8, w.extractLsb' 0 8]

/-- A 24-bit field, most significant byte first. -/
def bytes24 (w : BitVec 24) : List Byte :=
  [w.extractLsb' 16 8, w.extractLsb' 8 8, w.extractLsb' 0 8]

/-- A 32-bit field, most significant byte first. -/
def bytes32 (w : BitVec 32) : List Byte :=
  [w.extractLsb' 24 8, w.extractLsb' 16 8, w.extractLsb' 8 8, w.extractLsb' 0 8]

/-- A number within 0 to 65535 as two bytes. -/
def num16 (n : Nat) : List Byte := bytes16 (BitVec.ofNat 16 n)

/-- An engineering value: 3 bytes, two's complement. -/
def engBytes (v : Int) : List Byte := bytes24 (BitVec.ofInt 24 v)

/-- A point number as two bytes. -/
def pointBytes (n : PointNo) : List Byte := num16 n.val

/-- The 16-bit number of two bytes. -/
def word16 (hi lo : Byte) : BitVec 16 := hi ++ lo

/-- The 24-bit number of three bytes. -/
def word24 (hi mid lo : Byte) : BitVec 24 := hi ++ mid ++ lo

/-- The 32-bit number of four bytes. -/
def word32 (b3 b2 b1 b0 : Byte) : BitVec 32 := b3 ++ b2 ++ b1 ++ b0

/-! ### The CRC-8 (R199) -/

/-- One shift of the CRC register. -/
def crcShift (r : Byte) : Byte :=
  if r.msb then (r <<< 1) ^^^ 0x07#8 else r <<< 1

/-- The CRC register after one more byte: combined by exclusive-OR, then shifted eight times. -/
def crcByte (r b : Byte) : Byte :=
  (List.range 8).foldl (fun r _ => crcShift r) (r ^^^ b)

/-- The CRC-8 of a sequence of bytes. -/
def crc8 (bytes : List Byte) : Byte := bytes.foldl crcByte 0x00#8

/-- The bytes closed by their CRC-8. -/
def closed (bytes : List Byte) : List Byte := bytes ++ [crc8 bytes]

/-! ### Codes (R201, R202) -/

/-- Status codes. -/
def statusCode : Status → Byte
  | .ok => 0x00#8 | .busy => 0x01#8 | .quiet => 0x02#8 | .noPoint => 0x03#8 | .noTag => 0x04#8
  | .tagInUse => 0x05#8 | .tableFull => 0x06#8 | .badState => 0x07#8 | .revision => 0x08#8
  | .held => 0x09#8 | .badParam => 0x0A#8 | .badBand => 0x0B#8 | .listFull => 0x0C#8
  | .duplicate => 0x0D#8 | .notListed => 0x0E#8 | .noHoldSpace => 0x0F#8 | .expired => 0x10#8
  | .notHeld => 0x11#8 | .unknown => 0x12#8 | .frame => 0x13#8 | .abandoned => 0x14#8
  | .notReady => 0x15#8

/-- Point-state codes. -/
def pointStateCode : PointState → Byte
  | .free => 0x00#8 | .draft => 0x01#8 | .live => 0x02#8 | .parked => 0x03#8 | .retiring => 0x04#8

/-- Quality codes. -/
def qualityCode : Quality → Byte
  | .unscanned => 0x00#8 | .good => 0x01#8 | .overrange => 0x02#8 | .portFault => 0x03#8
  | .stale => 0x04#8

/-- Level codes. -/
def levelCode : Level → Byte
  | .normal => 0x00#8 | .lowWarn => 0x01#8 | .lowTrip => 0x02#8 | .highWarn => 0x03#8
  | .highTrip => 0x04#8

/-- Outcome codes. -/
def outcomeCode : EntryOutcome → Byte
  | .none => 0x00#8 | .pending => 0x01#8 | .inFlight => 0x02#8 | .done => 0x03#8
  | .faulted => 0x04#8 | .skipped => 0x05#8 | .cancelled => 0x06#8

/-- The outcome byte of a staged entry, which carries no outcome. -/
def stagedOutcomeCode : Byte := 0xFF#8

/-- Class codes. -/
def classCode : CondClass → Byte
  | .notify => 0x00#8 | .latch => 0x01#8

/-- Scan-mode codes. -/
def scanModeCode : ScanMode → Byte
  | .oneShot => 0x00#8 | .cyclic => 0x01#8

/-- Origin codes. -/
def originCode : Origin → Byte
  | .routine => 0x00#8 | .priority => 0x01#8

/-- Scanner-state codes. -/
def scannerCode : ScannerState → Byte
  | .idle => 0x00#8 | .pass => 0x01#8 | .gap => 0x02#8

/-- Mode codes. -/
def modeCode : Mode → Byte
  | .quiet => 0x00#8 | .waking => 0x01#8 | .active => 0x02#8 | .quiescing => 0x03#8

/-- Sample-port state codes. -/
def phaseCode : Phase → Byte
  | .offline => 0x00#8 | .probing _ => 0x01#8 | .idle => 0x02#8 | .busy _ _ => 0x03#8
  | .cancelling _ _ => 0x04#8 | .faulted => 0x05#8

/-- The code of a converter class, or FFh for none. -/
def converterClassCode : Option (Fin 16) → Byte
  | some c => byteOf c.val
  | none => 0xFF#8

/-- The list or profile choice: ACTIVE 00h, STAGED 01h. -/
def choiceCode (staged : Bool) : Byte := flagByte staged

/-- The opcode of a command (R201). -/
def opcodeOf : Cmd → Byte
  | .define => 0x10#8 | .find => 0x11#8 | .readProfile => 0x12#8 | .readValue => 0x13#8
  | .edit => 0x14#8 | .activate => 0x15#8 | .park => 0x16#8 | .unpark => 0x17#8
  | .retire => 0x18#8 | .readChanged => 0x19#8
  | .hold => 0x20#8 | .release => 0x21#8
  | .rlistInsert => 0x30#8 | .rlistRemove => 0x31#8 | .rlistClear => 0x32#8 | .rlistRead => 0x33#8
  | .plistSet => 0x34#8 | .plistRead => 0x35#8
  | .scanStart => 0x40#8 | .scanStop => 0x41#8 | .scanHalt => 0x42#8 | .skipPass => 0x43#8
  | .runPriority => 0x44#8 | .abortPoint => 0x45#8 | .scanConfig => 0x46#8 | .scanStatus => 0x47#8
  | .condRead => 0x50#8 | .ack => 0x51#8 | .ackUpto => 0x52#8 | .condClear => 0x53#8
  | .portConfig => 0x60#8 | .portRestore => 0x61#8 | .portStatus => 0x62#8
  | .status => 0x70#8 | .clearFlags => 0x71#8 | .attnMask => 0x72#8 | .identify => 0x73#8
  | .enterQuiet => 0x74#8 | .exitQuiet => 0x75#8 | .softReset => 0x76#8

/-- The forty commands in opcode order. -/
def allCommands : List Cmd :=
  [.define, .find, .readProfile, .readValue, .edit, .activate, .park, .unpark, .retire, .readChanged,
   .hold, .release,
   .rlistInsert, .rlistRemove, .rlistClear, .rlistRead, .plistSet, .plistRead,
   .scanStart, .scanStop, .scanHalt, .skipPass, .runPriority, .abortPoint, .scanConfig, .scanStatus,
   .condRead, .ack, .ackUpto, .condClear,
   .portConfig, .portRestore, .portStatus,
   .status, .clearFlags, .attnMask, .identify, .enterQuiet, .exitQuiet, .softReset]

/-- The command an opcode byte names, if it names one (R173, R201). -/
def commandOf (opcode : Byte) : Option Cmd :=
  allCommands.find? fun c => opcodeOf c = opcode

/-- The length of a command's fixed part in bytes (R173, R201). -/
def fixedLength : Cmd → Nat
  | .define | .find => 4
  | .readProfile => 6
  | .readValue => 5
  | .edit => 8
  | .activate | .park | .unpark | .retire => 5
  | .readChanged => 1
  | .hold => 6
  | .release => 5
  | .rlistInsert => 7
  | .rlistRemove => 5
  | .rlistClear => 0
  | .rlistRead => 3
  | .plistSet => 1
  | .plistRead => 2
  | .scanStart => 1
  | .scanStop | .scanHalt | .skipPass | .runPriority => 0
  | .abortPoint => 5
  | .scanConfig => 3
  | .scanStatus => 0
  | .condRead => 2
  | .ack => 5
  | .ackUpto => 4
  | .condClear => 5
  | .portConfig => 3
  | .portRestore => 1
  | .portStatus => 2
  | .status => 0
  | .clearFlags | .attnMask => 1
  | .identify | .enterQuiet | .exitQuiet | .softReset => 0

/-- Whether parameters may follow the fixed part: EDIT and PLIST_SET (R173). -/
def variableLength : Cmd → Bool
  | .edit | .plistSet => true
  | _ => false

/-- The length check of R173, step 3. -/
def lengthFits (c : Cmd) (n : Nat) : Bool :=
  if variableLength c then decide (fixedLength c ≤ n) else decide (n = fixedLength c)

/-! ### Frames (R165, R198, R200) -/

/-- The bytes of a command frame. -/
def frameBytes (f : Frame) : List Byte :=
  closed (f.opcode :: byteOf f.params.length :: f.params)

/-- The two checks of R165: the frame these bytes hold, or `none` for a frame error. -/
def parseFrame : List Byte → Option Frame
  | opcode :: len :: rest =>
    if len.toNat ≤ Config.maxParameters ∧ rest.length = len.toNat + 1
        ∧ rest.getLast? = some (crc8 (opcode :: len :: rest.dropLast)) then
      some ⟨opcode, rest.dropLast⟩
    else none
  | _ => none

/-- The bytes of a response frame: status, header flags with the overlap mark in bit 0, data length,
data and CRC-8. -/
def responseBytes (r : Response) : List Byte :=
  closed (statusCode r.status :: flagByte r.overlap :: byteOf r.data.length :: r.data)

/-- The NOT_READY marker of R169 and R200 in a port that is WAITING or READY. -/
def notReadyMarker (overlap waiting : Bool) : Response :=
  ⟨.notReady, overlap, [flagByte waiting]⟩

/-- `n` bytes read from a returned frame: the frame, then FFh (R200). -/
def shiftedOut (frame : List Byte) (n : Nat) : List Byte :=
  (frame ++ List.replicate n 0xFF#8).take n

/-! ### Sample-link bursts (R204) -/

/-- The burst of a message the Q512 sends. -/
def linkTxBytes : LinkTx → List Byte
  | .convert seq channel settle =>
    closed [0x01#8, seq.zeroExtend 8, byteOf channel.val, byteOf settle.val]
  | .cancel seq => closed [0x02#8, seq.zeroExtend 8]
  | .probe => closed [0x03#8]

/-- What a received burst is to the port. -/
inductive LinkRx where
  | result (seq : Seq) (code : BitVec 16) (range : RangeFlag)
  | cancelAck (seq : Seq)
  | present (cls : Fin 16)
  | damaged
  deriving DecidableEq, Repr

/-- A range byte. -/
def rangeOf (b : Byte) : Option RangeFlag :=
  if b = 0x00#8 then some .inRange
  else if b = 0x01#8 then some .over
  else if b = 0x02#8 then some .under
  else none

/-- A seq byte, 00h to 0Fh. -/
def seqOf (b : Byte) : Option Seq :=
  if b.toNat < 16 then some (b.truncate 4) else none

/-- A class byte, 00h to 0Fh. -/
def classOf (b : Byte) : Option (Fin 16) :=
  if h : b.toNat < 16 then some ⟨b.toNat, h⟩ else none

/-- The message of a burst whose CRC was right: kind byte and fields. -/
def decodeMessage : List Byte → LinkRx
  | [kind, s, hi, lo, r] =>
    if kind = 0x81#8 then
      match seqOf s, rangeOf r with
      | some seq, some range => .result seq (word16 hi lo) range
      | _, _ => .damaged
    else .damaged
  | [kind, b] =>
    if kind = 0x82#8 then
      match seqOf b with
      | some seq => .cancelAck seq
      | none => .damaged
    else if kind = 0x83#8 then
      match classOf b with
      | some cls => .present cls
      | none => .damaged
    else .damaged
  | _ => .damaged

/-- What a received burst is, by its CRC, length, kind and field bytes (R204). -/
def decodeBurst (burst : List Byte) : LinkRx :=
  if burst.getLast? = some (crc8 burst.dropLast) then decodeMessage burst.dropLast else .damaged

end Sys2Proof.Machine
end

