-- ==== Sys2Proof/Machine/Operands.lean ====
section
/-! DEFINITION. Reading a command's parameter bytes: fields by their position (R197, R201), the
selector block (R202), the choices, and the four EDIT groups with their legality (R4, R202). -/

namespace Sys2Proof.Machine

/-! ### Fields by position -/

/-- The parameter byte at position `i`. Read only inside the length the command was checked for. -/
def byteAt (ps : List Byte) (i : Nat) : Byte := ps.getD i 0x00#8

/-- The one-byte number at position `i`. -/
def numAt (ps : List Byte) (i : Nat) : Nat := (byteAt ps i).toNat

/-- The two-byte field at position `i`. -/
def wordAt16 (ps : List Byte) (i : Nat) : BitVec 16 := word16 (byteAt ps i) (byteAt ps (i + 1))

/-- The two-byte number at position `i`. -/
def numAt16 (ps : List Byte) (i : Nat) : Nat := (wordAt16 ps i).toNat

/-- The four-byte field at position `i`. -/
def wordAt32 (ps : List Byte) (i : Nat) : BitVec 32 :=
  word32 (byteAt ps i) (byteAt ps (i + 1)) (byteAt ps (i + 2)) (byteAt ps (i + 3))

/-- The engineering value at position `i`: 3 bytes, two's complement. -/
def engAt (ps : List Byte) (i : Nat) : Int :=
  (word24 (byteAt ps i) (byteAt ps (i + 1)) (byteAt ps (i + 2))).toInt

/-! ### Selector blocks (R29, R202) -/

/-- How a selector block names its point. -/
inductive PointName where
  | number (n : Nat)
  | tag (t : Tag)
  deriving DecidableEq, Repr

/-- The selector block at position `i`, or `none` where R202 refuses it at decoding. -/
def selectorAt (ps : List Byte) (i : Nat) : Option PointName :=
  if byteAt ps i = 0x01#8 then
    if byteAt ps (i + 1) = 0x00#8 ∧ byteAt ps (i + 2) = 0x00#8 then
      some (.number (numAt16 ps (i + 3)))
    else none
  else if byteAt ps i = 0x02#8 then some (.tag (wordAt32 ps (i + 1)))
  else none

/-! ### Choices and numbers in a range -/

/-- A flag or choice of two: 00h or 01h (R197, R202). -/
def flagOf (b : Byte) : Option Bool :=
  if b = 0x00#8 then some false else if b = 0x01#8 then some true else none

/-- A scan mode byte. -/
def scanModeOf (b : Byte) : Option ScanMode :=
  if b = 0x00#8 then some .oneShot else if b = 0x01#8 then some .cyclic else none

/-- A class byte. -/
def condClassOf (b : Byte) : Option CondClass :=
  if b = 0x00#8 then some .notify else if b = 0x01#8 then some .latch else none

/-- A sample-port number, 0 to 3 (R100). -/
def portOf (b : Byte) : Option PortNo :=
  if h : b.toNat < 4 then some ⟨b.toNat, h⟩ else none

/-- An attention mask: one bit for each of the seven sources, bit 7 clear (R202). -/
def maskOf (b : Byte) : Option (BitVec 7) :=
  if b.msb then none else some (b.truncate 7)

/-! ### EDIT groups (R3, R4, R202) -/

/-- One group of a profile with its fields. -/
inductive Group where
  | route (r : Route)
  | scale (c : Scale)
  | band (b : Band)
  | policy (p : Policy)
  deriving DecidableEq, Repr

/-- The profile with one group replaced whole (R39, R40). -/
def Profile.write (pr : Profile) : Group → Profile
  | .route r => { pr with route := r }
  | .scale c => { pr with scale := c }
  | .band b => { pr with band := b }
  | .policy p => { pr with policy := p }

/-- ROUTE: port 1, channel 1, settle 1. -/
def routeOf (fs : List Byte) : Option Route :=
  if h : fs.length = 3 ∧ numAt fs 0 < 4 ∧ numAt fs 1 < 64 ∧ numAt fs 2 < 16 then
    some ⟨⟨numAt fs 0, h.2.1⟩, ⟨numAt fs 1, h.2.2.1⟩, ⟨numAt fs 2, h.2.2.2⟩⟩
  else none

/-- SCALE: gain 2, offset 3, weight 1. -/
def scaleOf (fs : List Byte) : Option Scale :=
  if h : fs.length = 6 ∧ numAt fs 5 < 8 then
    some ⟨(wordAt16 fs 0).toInt, engAt fs 2, ⟨numAt fs 5, h.2⟩⟩
  else none

/-- A limit of a BAND group: present where its presence bit is set; the value bytes of an absent
limit are not examined (R202). -/
def limitAt (fs : List Byte) (bit i : Nat) : Option Int :=
  if (byteAt fs 0).getLsbD bit then some (engAt fs i) else none

/-- BAND: presence 1, lo_trip 3, lo_warn 3, hi_warn 3, hi_trip 3, h 2. -/
def bandOf (fs : List Byte) : Option Band :=
  if fs.length = 15 ∧ numAt fs 0 < 16 then
    some ⟨limitAt fs 0 1, limitAt fs 1 4, limitAt fs 2 7, limitAt fs 3 10, numAt16 fs 13⟩
  else none

/-- POLICY: confirm count 1, class 1, stale limit 1. -/
def policyOf (fs : List Byte) : Option Policy :=
  if fs.length = 3 ∧ 1 ≤ numAt fs 0 ∧ numAt fs 0 ≤ 8 then
    match condClassOf (byteAt fs 1) with
    | some cls => some ⟨numAt fs 0, cls, numAt fs 2⟩
    | none => none
  else none

/-- The group a group code and its field bytes hold; `none` is BAD_PARAM (R36 step 5, R4). -/
def groupOf (code : Byte) (fs : List Byte) : Option Group :=
  if code = 0x00#8 then (routeOf fs).map .route
  else if code = 0x01#8 then (scaleOf fs).map .scale
  else if code = 0x02#8 then (bandOf fs).map .band
  else if code = 0x03#8 then (policyOf fs).map .policy
  else none

/-- Two limits, where both are present, stand in the given order. -/
def ordered (le : Int → Int → Bool) : Option Int → Option Int → Bool
  | some a, some b => le a b
  | _, _ => true

/-- The order check of R4: lo_trip ≤ lo_warn < hi_warn ≤ hi_trip, tested on every pair present. -/
def Band.inOrder (b : Band) : Bool :=
  ordered (fun x y => decide (x ≤ y)) b.loTrip b.loWarn
    && ordered (fun x y => decide (x ≤ y)) b.hiWarn b.hiTrip
    && ordered (fun x y => decide (x < y)) b.loTrip b.hiWarn
    && ordered (fun x y => decide (x < y)) b.loTrip b.hiTrip
    && ordered (fun x y => decide (x < y)) b.loWarn b.hiWarn
    && ordered (fun x y => decide (x < y)) b.loWarn b.hiTrip

/-- Whether a group passes the order check; only a BAND group can fail it (R4). -/
def Group.inOrder : Group → Bool
  | .band b => b.inOrder
  | _ => true

/-! ### Returned profile fields (R202, R203) -/

/-- The value bytes of a limit; 00h where it is absent (R202). -/
def limitBytes : Option Int → List Byte
  | some v => engBytes v
  | none => [0x00#8, 0x00#8, 0x00#8]

/-- The presence byte of a BAND group. -/
def presenceByte (b : Band) : Byte :=
  byteOf ((if b.loTrip.isSome then 1 else 0) + (if b.loWarn.isSome then 2 else 0)
    + (if b.hiWarn.isSome then 4 else 0) + (if b.hiTrip.isSome then 8 else 0))

/-- The 27 bytes of a profile's four groups: ROUTE 3, SCALE 6, BAND 15, POLICY 3. -/
def profileBytes (pr : Profile) : List Byte :=
  [byteOf pr.route.port.val, byteOf pr.route.channel.val, byteOf pr.route.settle.val]
    ++ bytes16 (BitVec.ofInt 16 pr.scale.gain) ++ engBytes pr.scale.offset
    ++ [byteOf pr.scale.weight.val]
    ++ [presenceByte pr.band] ++ limitBytes pr.band.loTrip ++ limitBytes pr.band.loWarn
    ++ limitBytes pr.band.hiWarn ++ limitBytes pr.band.hiTrip ++ num16 pr.band.hysteresis
    ++ [byteOf pr.policy.confirm, classCode pr.policy.cls, byteOf pr.policy.staleLimit]

end Sys2Proof.Machine
end

