-- ==== Sys2Proof/WellFormed.lean ====
section
/-! DEFINITION. Which terms of `Instr` stand for a step that can cross the part's pins. -/

namespace Sys2Proof.Machine

/-- The parameters of a taken command are at most 40 bytes (R165). -/
def paramsFit (ps : List Byte) : Bool := decide (ps.length ≤ Config.maxParameters)

/-- Well-formedness of a step: a command's parameters fit a frame; the opcode of an unknown command
names no command (R173); a frame is not empty, and on SPI does not begin with the fetch byte 00h
(R163, R164); a damaged burst is one that R204 takes as damaged. -/
def wellFormed : Instr → Bool
  | .define _ ps => paramsFit ps
  | .find _ ps => paramsFit ps
  | .readProfile _ ps => paramsFit ps
  | .readValue _ ps => paramsFit ps
  | .edit _ ps => paramsFit ps
  | .activate _ ps => paramsFit ps
  | .park _ ps => paramsFit ps
  | .unpark _ ps => paramsFit ps
  | .retire _ ps => paramsFit ps
  | .readChanged _ ps => paramsFit ps
  | .hold _ ps => paramsFit ps
  | .release _ ps => paramsFit ps
  | .rlistInsert _ ps => paramsFit ps
  | .rlistRemove _ ps => paramsFit ps
  | .rlistClear _ ps => paramsFit ps
  | .rlistRead _ ps => paramsFit ps
  | .plistSet _ ps => paramsFit ps
  | .plistRead _ ps => paramsFit ps
  | .scanStart _ ps => paramsFit ps
  | .scanStop _ ps => paramsFit ps
  | .scanHalt _ ps => paramsFit ps
  | .skipPass _ ps => paramsFit ps
  | .runPriority _ ps => paramsFit ps
  | .abortPoint _ ps => paramsFit ps
  | .scanConfig _ ps => paramsFit ps
  | .scanStatus _ ps => paramsFit ps
  | .condRead _ ps => paramsFit ps
  | .ack _ ps => paramsFit ps
  | .ackUpto _ ps => paramsFit ps
  | .condClear _ ps => paramsFit ps
  | .portConfig _ ps => paramsFit ps
  | .portRestore _ ps => paramsFit ps
  | .portStatus _ ps => paramsFit ps
  | .status _ ps => paramsFit ps
  | .clearFlags _ ps => paramsFit ps
  | .attnMask _ ps => paramsFit ps
  | .identify _ ps => paramsFit ps
  | .enterQuiet _ ps => paramsFit ps
  | .exitQuiet _ ps => paramsFit ps
  | .softReset _ ps => paramsFit ps
  | .unknownOpcode _ opcode ps => (commandOf opcode).isNone && paramsFit ps
  | .commandFrame .spi bytes => !bytes.isEmpty && bytes.head? != some 0x00#8
  | .commandFrame (.i2c _) bytes => !bytes.isEmpty
  | .fetch _ => true
  | .fetchEnd _ _ => true
  | .result _ _ _ _ => true
  | .cancelAck _ _ => true
  | .present _ _ => true
  | .damagedMessage _ burst => decodeBurst burst == .damaged
  | .timeout _ => true
  | .cancelTimerExpiry _ => true
  | .probeTimerExpiry _ => true
  | .periodTick => true
  | .holdExpiry _ => true
  | .wakeGuardExpiry => true
  | .ptrig => true
  | .powerOn _ => true
  | .resetN _ => true

end Sys2Proof.Machine
end

