-- ==== Sys2Proof/Decode.lean ====
section
/-! DEFINITION. Reading a step from a table word. No row of spec/opcode_table.json gives bits, so no
word spells a step; the bytes of command frames and bursts are read in Machine/Formats.lean. -/

namespace Sys2Proof

/-- The step an `nbits`-bit table word spells: none, since no row of the table gives bits. -/
def decodeTableWord (_nbits _w : Nat) : Option Instr := none

end Sys2Proof
end

