-- ==== Sys2Proof/Machine/Ops.lean ====
section
/-! DEFINITION. The operations every block is reached through: reads and writes of one record, one
sample port, one command port or one block; the tag index; point resolution; the hold check; the
change-set mark. -/

namespace Sys2Proof.Machine

/-! ### One home for each read and write -/

/-- The record of point `n`. -/
def State.pt (s : State) (n : PointNo) : Point := s.points.get n

/-- The state with record `n` replaced. -/
def State.setPt (s : State) (n : PointNo) (x : Point) : State :=
  { s with points := s.points.set n x }

/-- The state with record `n` changed by `f`. -/
def State.modPt (s : State) (n : PointNo) (f : Point → Point) : State := s.setPt n (f (s.pt n))

/-- Sample port `i`. -/
def State.port (s : State) (i : PortNo) : SamplePort := s.ports.get i

/-- The state with sample port `i` replaced. -/
def State.setPort (s : State) (i : PortNo) (x : SamplePort) : State :=
  { s with ports := s.ports.set i x }

/-- The state with sample port `i` changed by `f`. -/
def State.modPort (s : State) (i : PortNo) (f : SamplePort → SamplePort) : State :=
  s.setPort i (f (s.port i))

/-- Command port `p`. -/
def State.cmd (s : State) (p : CmdPort) : CommandPort := s.cmdPorts.get p

/-- The state with command port `p` replaced. -/
def State.setCmd (s : State) (p : CmdPort) (x : CommandPort) : State :=
  { s with cmdPorts := s.cmdPorts.set p x }

/-- The state with command port `p` changed by `f`. -/
def State.modCmd (s : State) (p : CmdPort) (f : CommandPort → CommandPort) : State :=
  s.setCmd p (f (s.cmd p))

/-- The state with the scan engine changed by `f`. -/
def State.modScan (s : State) (f : Scan → Scan) : State := { s with scan := f s.scan }

/-- The state with the condition unit changed by `f`. -/
def State.modCond (s : State) (f : CondUnit → CondUnit) : State := { s with cond := f s.cond }

/-- The state with the attention logic changed by `f`. -/
def State.modAttn (s : State) (f : Attention → Attention) : State := { s with attn := f s.attn }

/-- The state with another hold table. -/
def State.setHolds (s : State) (hs : List HoldRecord) : State := { s with holds := hs }

/-- The state with other change sets. -/
def State.setChanged (s : State) (c : Both ChangeSet) : State := { s with changed := c }

/-- The state with another port served last. -/
def State.setServed (s : State) (p : CmdPort) : State := { s with servedLast := p }

/-- The state with other run-control items. -/
def State.setRun (s : State) (r : RunControl) : State := { s with run := r }

/-- The state in mode `m`, the wake guard as it stood. -/
def State.setMode (s : State) (m : Mode) : State := s.setRun { s.run with mode := m }

/-- Whether the part is held in reset: RESET_N is held low or power is coming up (R196). -/
def State.heldInReset (s : State) : Bool := s.inReset || s.poweringUp

/-- The state after an I2C transaction in which the target gave these acknowledge bits (R164). -/
def State.setAcks (s : State) (bits : List Bool) : State := { s with i2cAcks := bits }

/-- The other command port. -/
def otherPort : CmdPort → CmdPort
  | .host => .service
  | .service => .host

/-! ### The tag index (R23 to R28) -/

/-- The bucket of a tag: the exclusive-OR of its four bytes (R24). -/
def bucketOf (t : Tag) : Byte :=
  t.extractLsb' 24 8 ^^^ t.extractLsb' 16 8 ^^^ t.extractLsb' 8 8 ^^^ t.extractLsb' 0 8

/-- The number of a bucket among the 256 heads. -/
def bucketNo (b : Byte) : Fin 256 := ⟨b.toNat, b.isLt⟩

/-- The head of bucket `b` (R23). -/
def State.head (s : State) (b : Byte) : Option PointNo := s.heads.get (bucketNo b)

/-- The state with the head of bucket `b` replaced. -/
def State.setHead (s : State) (b : Byte) (h : Option PointNo) : State :=
  { s with heads := s.heads.set (bucketNo b) h }

/-- The state with the next-in-bucket link of record `n` replaced (R1). -/
def State.setNext (s : State) (n : PointNo) (h : Option PointNo) : State :=
  s.modPt n fun x => { x with next := h }

/-- The walk of R25 from one record on, at most `fuel` records long. -/
def chainFind (s : State) (t : Tag) : Nat → Option PointNo → Option PointNo
  | 0, _ => none
  | _ + 1, none => none
  | fuel + 1, some n => if (s.pt n).tag = t then some n else chainFind s t fuel (s.pt n).next

/-- The lookup of R25. A chain holds at most 512 records (R23), so the walk is that long. Tag 0 is
never found (R29). -/
def State.lookup (s : State) (t : Tag) : Option PointNo :=
  if t = 0#32 then none else chainFind s t 512 (s.head (bucketOf t))

/-- The record that links to record `n` on the chain from one record on (R27). -/
def chainPrev (s : State) (n : PointNo) : Nat → Option PointNo → Option PointNo
  | 0, _ => none
  | _ + 1, none => none
  | fuel + 1, some m => if (s.pt m).next = some n then some m else chainPrev s n fuel (s.pt m).next

/-- Linking at DEFINE: record `n` becomes the head of the bucket of tag `t` (R26). -/
def State.link (s : State) (n : PointNo) (t : Tag) : State :=
  (s.setNext n (s.head (bucketOf t))).setHead (bucketOf t) (some n)

/-- Unlinking at RETIRE: the head or the record before takes record `n`'s link, which becomes none
(R27). -/
def State.unlink (s : State) (n : PointNo) : State :=
  let b := bucketOf (s.pt n).tag
  let after := (s.pt n).next
  let t :=
    if s.head b = some n then s.setHead b after
    else
      match chainPrev s n 512 (s.head b) with
      | some m => s.setNext m after
      | none => s
  t.setNext n none

/-! ### Naming a point (R29, R30) -/

/-- A record a command can name: DRAFT, LIVE or PARKED (R9). -/
def PointState.named : PointState → Bool
  | .draft | .live | .parked => true
  | .free | .retiring => false

/-- Resolution by point number (R29). -/
def State.resolveNumber (s : State) (n : Nat) : Option PointNo :=
  if h : n < 512 then
    if (s.pt ⟨n, h⟩).state.named then some ⟨n, h⟩ else none
  else none

/-- Resolution of a selector block: BAD_PARAM, NO_POINT or NO_TAG, or the point (R29). -/
def State.resolve (s : State) : Option PointName → Except Status PointNo
  | none => .error .badParam
  | some (.number n) =>
    match s.resolveNumber n with
    | some m => .ok m
    | none => .error .noPoint
  | some (.tag t) =>
    match s.lookup t with
    | some m => .ok m
    | none => .error .noTag

/-- The number of points in use (R10). -/
def State.pointsInUse (s : State) : Nat := s.points.count fun x => x.state != .free

/-! ### Holds (R145 to R152) -/

/-- The hold record on point `n`. -/
def State.holdOn (s : State) (n : PointNo) : Option HoldRecord :=
  s.holds.find? fun h => h.point = n

/-- The hold with which the other command port refuses port `p` on point `n` (R148). -/
def State.blockingHold (s : State) (p : CmdPort) (n : PointNo) : Option HoldRecord :=
  s.holds.find? fun h => h.point = n ∧ h.port ≠ p

/-- The hold table without the records on point `n`. -/
def holdsWithout (hs : List HoldRecord) (n : PointNo) : List HoldRecord :=
  hs.filter fun h => h.point ≠ n

/-- The remaining time as reported: whole milliseconds, rounded up, at least 1 (R146). -/
def reportedTime (left : Nat) : Nat :=
  max 1 ((left + (Config.holdUnit - 1)) / Config.holdUnit)

/-- The last-expired-hold record of port `p` becomes none if it names point `n` (R147, R151). -/
def State.forgetExpired (s : State) (p : CmdPort) (n : PointNo) : State :=
  s.modCmd p fun c => if c.lastExpired = some n then { c with lastExpired := none } else c

/-! ### Change sets (R155, R156, R159) -/

/-- The change set with point `n` in or out. -/
def ChangeSet.put (c : ChangeSet) (n : PointNo) (b : Bool) : ChangeSet :=
  { c with members := c.members.set n b }

/-- Point `n` joins the change sets of both command ports (R156). -/
def State.mark (s : State) (n : PointNo) : State :=
  s.setChanged (s.changed.map fun c => c.put n true)

/-- Point `n` leaves both change sets; the cursors keep their positions (R159). -/
def State.unmark (s : State) (n : PointNo) : State :=
  s.setChanged (s.changed.map fun c => c.put n false)

/-- Whether point `n` is a member of the change set of port `p`. -/
def State.isChanged (s : State) (p : CmdPort) (n : PointNo) : Bool :=
  (s.changed.get p).members.get n

end Sys2Proof.Machine
end

