-- ==== Sys2Proof/Machine/Flags.lean ====
section
/-! DEFINITION. The attention flags: the seven sources, three derived from other blocks and four
sticky, and the outputs ATTN_N and CYM (R82, R143, R180 to R182, R196). -/

namespace Sys2Proof.Machine

/-- UNACKED: an entry of the condition list has its acknowledged flag clear (R143). -/
def State.unacked (s : State) : Bool := s.cond.list.any fun e => !e.acknowledged

/-- OVERFLOW: a point carries an unlisted mark (R143). -/
def State.overflow (s : State) : Bool := s.points.any fun x => x.unlisted

/-- PORT_FAULT: a sample port is FAULTED (R95). -/
def State.portFault (s : State) : Bool := s.ports.any fun x => x.phase == .faulted

/-- The seven sources with bit 0 UNACKED, 1 OVERFLOW, 2 PORT_FAULT, 3 OVERRUN, 4 PRIO_DONE,
5 PRIO_LOST and 6 HOLD_EXPIRED (R180, R202). -/
def State.sources (s : State) : BitVec 7 :=
  BitVec.ofNat 7
    ((if s.unacked then 1 else 0) + (if s.overflow then 2 else 0) + (if s.portFault then 4 else 0)
      + (if s.attn.overrun then 8 else 0) + (if s.attn.prioDone then 16 else 0)
      + (if s.attn.prioLost then 32 else 0) + (if s.attn.holdExpired then 64 else 0))

/-- Whether ATTN_N is driven low: some source is active and enabled, and the part is not held in
reset (R182, R196). -/
def State.attnLow (s : State) : Bool :=
  !s.heldInReset && (s.sources &&& s.attn.mask) != 0#7

/-- The level of the CYM output: low while the part is held in reset, else the level that the last pass start
or pass-end gave it (R82, R196). -/
def State.cymHigh (s : State) : Bool := !s.heldInReset && s.scan.cym

/-- A mask or source byte on the wire (R202). -/
def maskByte (m : BitVec 7) : Byte := m.zeroExtend 8

/-- The sticky flags named in a mask are cleared, the others kept (R178). -/
def Attention.clearNamed (a : Attention) (m : BitVec 7) : Attention where
  mask := a.mask
  overrun := a.overrun && !m.getLsbD 3
  prioDone := a.prioDone && !m.getLsbD 4
  prioLost := a.prioLost && !m.getLsbD 5
  holdExpired := a.holdExpired && !m.getLsbD 6

/-- All four sticky flags are cleared; the mask is kept (R185). -/
def Attention.clearSticky (a : Attention) : Attention where
  mask := a.mask
  overrun := false
  prioDone := false
  prioLost := false
  holdExpired := false

end Sys2Proof.Machine
end

