-- ==== Sys2Proof/Machine/ConditionUnit.lean ====
section
/-! DEFINITION. The condition unit: band evaluation, confirmation, level changes, and the entries of
the condition list with their removal and refill (chapter 7). -/

namespace Sys2Proof.Machine

/-- Saturation to the engineering range (Conventions of 00_scope.md). -/
def saturate (v : Int) : Int := max Config.engMin (min Config.engMax v)

/-- The severity rank of a level (Conventions of 00_scope.md). -/
def Level.rank : Level → Nat
  | .normal => 0
  | .lowWarn | .highWarn => 1
  | .lowTrip | .highTrip => 2

/-! ### Evaluation (R122 to R125) -/

/-- The effective threshold of hi_trip at a current level (R122). -/
def hiTripAt (b : Band) (current : Level) : Option Int :=
  b.hiTrip.map fun v => if current = .highTrip then saturate (v - b.hysteresis) else v

/-- The effective threshold of hi_warn at a current level (R122). -/
def hiWarnAt (b : Band) (current : Level) : Option Int :=
  b.hiWarn.map fun v =>
    if current = .highWarn ∨ current = .highTrip then saturate (v - b.hysteresis) else v

/-- The effective threshold of lo_trip at a current level (R122). -/
def loTripAt (b : Band) (current : Level) : Option Int :=
  b.loTrip.map fun v => if current = .lowTrip then saturate (v + b.hysteresis) else v

/-- The effective threshold of lo_warn at a current level (R122). -/
def loWarnAt (b : Band) (current : Level) : Option Int :=
  b.loWarn.map fun v =>
    if current = .lowWarn ∨ current = .lowTrip then saturate (v + b.hysteresis) else v

/-- A sample at or above a high threshold; an absent limit matches nothing (R122, R123). -/
def atOrAbove (v : Int) : Option Int → Bool
  | some t => decide (t ≤ v)
  | none => false

/-- A sample at or below a low threshold; an absent limit matches nothing (R122, R123). -/
def atOrBelow (v : Int) : Option Int → Bool
  | some t => decide (v ≤ t)
  | none => false

/-- The indicated level of a sample with range flag NONE: the first line of R123 it matches. -/
def indicated (b : Band) (current : Level) (v : Int) : Level :=
  if atOrAbove v (hiTripAt b current) then .highTrip
  else if atOrAbove v (hiWarnAt b current) then .highWarn
  else if atOrBelow v (loTripAt b current) then .lowTrip
  else if atOrBelow v (loWarnAt b current) then .lowWarn
  else .normal

/-- The indicated level of a sample with range flag OVER (R124). -/
def indicatedOver (b : Band) (current : Level) : Level :=
  if b.hiTrip.isSome then .highTrip else if b.hiWarn.isSome then .highWarn else current

/-- The indicated level of a sample with range flag UNDER (R124). -/
def indicatedUnder (b : Band) (current : Level) : Level :=
  if b.loTrip.isSome then .lowTrip else if b.loWarn.isSome then .lowWarn else current

/-- The candidate and confirm counter after a sample, before the confirm test (R125). -/
def candidateAfter (x : Point) (ind : Level) : Option Level × Nat :=
  if ind = x.level then (none, 0)
  else if x.candidate = some ind then
    (some ind,
      if x.confirmCounter < x.active.policy.confirm then x.confirmCounter + 1 else x.confirmCounter)
  else (some ind, 1)

/-! ### Entries of the condition list (R127 to R133) -/

/-- The entry of point `n` (R120). -/
def State.entryOf (s : State) (n : PointNo) : Option CondEntry :=
  s.cond.list.find? fun e => e.point = n

/-- The entry of point `n` changed by `f`. -/
def State.modEntry (s : State) (n : PointNo) (f : CondEntry → CondEntry) : State :=
  s.modCond fun c => { c with list := c.list.map fun e => if e.point = n then f e else e }

/-- A new entry at the tail, stamped with the next raise sequence (R127). -/
def State.createEntry (s : State) (n : PointNo) (level peak : Level) : State :=
  s.modCond fun c =>
    { list := c.list ++ [⟨n, c.raiseSeq + 1#32, level, peak, false, 0⟩],
      raiseSeq := c.raiseSeq + 1#32 }

/-- The entry of point `n` leaves the list and the entries behind it close up (R133). -/
def State.dropEntry (s : State) (n : PointNo) : State :=
  s.modCond fun c => { c with list := c.list.filter fun e => e.point ≠ n }

/-- One refill: the lowest-numbered marked point is given an entry at its level and peak, and its
mark clears (R130). -/
def State.refill (s : State) : State :=
  match s.points.first fun x => x.unlisted with
  | some m =>
    (s.createEntry m (s.pt m).level (s.pt m).peak).modPt m fun x => { x with unlisted := false }
  | none => s

/-- Removal of the entry of point `n`: the point's peak becomes NORMAL, then one refill (R133). -/
def State.removeEntry (s : State) (n : PointNo) : State :=
  ((s.dropEntry n).modPt n fun x => { x with peak := .normal }).refill

/-- Removal of the entry of a retired point, if it has one: the refill follows, and the peak keeps
its value (R18, R141). -/
def State.retireEntry (s : State) (n : PointNo) : State :=
  if (s.entryOf n).isSome then (s.dropEntry n).refill else s

/-- The more severe of a peak and a new level; an equal rank keeps the peak (R131). -/
def raisePeak (peak new : Level) : Level := if peak.rank < new.rank then new else peak

/-- An entry after a level change of its point: level, peak and re-arm (R131). -/
def CondEntry.changed (e : CondEntry) (new : Level) : CondEntry where
  point := e.point
  seq := e.seq
  level := new
  peak := raisePeak e.peak new
  acknowledged := if e.level.rank < new.rank then false else e.acknowledged
  repeats := if e.level.rank < new.rank then min 15 (e.repeats + 1) else e.repeats

/-- A level change of a point that has the entry `e` (R131, R132). -/
def State.changeListed (s : State) (n : PointNo) (e : CondEntry) (new : Level) : State :=
  let t := (s.modEntry n fun e => e.changed new).modPt n fun x =>
    { x with peak := if e.peak.rank < new.rank then new else x.peak }
  if new = .normal ∧ (e.changed new).acknowledged ∧ (s.pt n).active.policy.cls = .notify then
    t.removeEntry n
  else t

/-- A level change of a point that carries an unlisted mark (R129). -/
def State.changeMarked (s : State) (n : PointNo) (new : Level) : State :=
  if new = .normal then
    match (s.pt n).active.policy.cls with
    | .notify => s.modPt n fun x => { x with unlisted := false, peak := .normal }
    | .latch => s
  else s.modPt n fun x => { x with peak := raisePeak x.peak new }

/-- A level change of a point without entry and mark (R128). -/
def State.changeUnlisted (s : State) (n : PointNo) (new : Level) : State :=
  if new = .normal then s
  else if s.cond.list.length < Config.conditionCapacity then
    (s.createEntry n new new).modPt n fun x => { x with peak := new }
  else s.modPt n fun x => { x with unlisted := true, peak := raisePeak x.peak new }

/-- A level change: the level is taken, the candidate cleared, and the list follows (R125, R126). -/
def State.levelChange (s : State) (n : PointNo) (new : Level) : State :=
  let t := s.modPt n fun x => { x with level := new, candidate := none, confirmCounter := 0 }
  match t.entryOf n with
  | some e => t.changeListed n e new
  | none => if (t.pt n).unlisted then t.changeMarked n new else t.changeUnlisted n new

/-- One evaluation of point `n` at an indicated level (R125). -/
def State.evaluate (s : State) (n : PointNo) (ind : Level) : State :=
  let ca := candidateAfter (s.pt n) ind
  if (s.pt n).active.policy.confirm ≤ ca.2 then s.levelChange n ind
  else s.modPt n fun x => { x with candidate := ca.1, confirmCounter := ca.2 }

/-- The removal test of ACK and ACK_UPTO: the class is NOTIFY and the entry stands at NORMAL
(R135, R136). -/
def State.ackRemoves (s : State) (e : CondEntry) : Bool :=
  e.level == .normal && (s.pt e.point).active.policy.cls == .notify

/-- Acknowledging the entry `e`: its flag is set and the removal test is made (R135, R136). -/
def State.ackEntry (s : State) (e : CondEntry) : State :=
  let t := s.modEntry e.point fun x => { x with acknowledged := true }
  if s.ackRemoves e then t.removeEntry e.point else t

end Sys2Proof.Machine
end

