-- ==== Sys2Proof/Machine/ValueUnit.lean ====
section
/-! DEFINITION. The value unit: scaling, smoothing, grading, fault resolutions and stale aging
(chapter 6). -/

namespace Sys2Proof.Machine

/-- The scaled value V: floor(code × G / 4096) + F, the sum saturated (R106). -/
def scaled (c : Scale) (code : BitVec 16) : Int :=
  saturate (Int.fdiv ((code.toNat : Int) * c.gain) 4096 + c.offset)

/-- The stored value built from V: V itself, or the old value moved by the floored 2^k-th part of the
difference (R107). -/
def smoothed (c : Scale) (seeded : Bool) (old v : Int) : Int :=
  if c.weight = 0 ∨ seeded = false then v
  else old + Int.fdiv (v - old) (2 ^ c.weight.val : Nat)

/-- The value part after a taken result (R105, R107, R109). -/
def graded (code : BitVec 16) (range : RangeFlag) (x : Point) : Point :=
  match range with
  | .inRange =>
    { x with
      raw := code
      value := smoothed x.active.scale x.seeded x.value (scaled x.active.scale code)
      quality := .good
      age := 0
      seeded := true }
  | .over | .under => { x with raw := code, quality := .overrange }

/-- The level a taken result indicates (R121, R123, R124). -/
def indicatedBy (code : BitVec 16) (range : RangeFlag) (x : Point) : Level :=
  match range with
  | .inRange => indicated x.active.band x.level (scaled x.active.scale code)
  | .over => indicatedOver x.active.band x.level
  | .under => indicatedUnder x.active.band x.level

/-- Whether value, quality or level of a point differ between two moments (R110). -/
def observablyDiffers (x y : Point) : Bool :=
  x.value != y.value || x.quality != y.quality || x.level != y.level

/-- A result processed for the LIVE point `n`: grading, evaluation, change-set mark (R105, R110). -/
def State.processResult (s : State) (n : PointNo) (code : BitVec 16) (range : RangeFlag) : State :=
  let t := (s.modPt n (graded code range)).evaluate n (indicatedBy code range (s.pt n))
  if observablyDiffers (s.pt n) (t.pt n) then t.mark n else t

/-- A fault resolution of point `n`: quality PORT_FAULT and a mark in both change sets (R111). -/
def State.faultPoint (s : State) (n : PointNo) : State :=
  (s.modPt n fun x => { x with quality := .portFault }).mark n

/-- The stale test on a point whose age was just incremented (R112). -/
def Point.turnsStale (x : Point) : Bool :=
  x.active.policy.staleLimit != 0 && decide (x.active.policy.staleLimit ≤ x.age)
    && (x.quality == .good || x.quality == .overrange || x.quality == .portFault)

/-- The point with its age incremented, staying at 255 (R112). -/
def Point.older (x : Point) : Point := { x with age := min 255 (x.age + 1) }

/-- Stale aging of one point, if it is LIVE (R112). -/
def State.agePoint (s : State) (n : PointNo) : State :=
  if (s.pt n).state = .live then
    let x := (s.pt n).older
    if x.turnsStale then (s.setPt n { x with quality := .stale }).mark n else s.setPt n x
  else s

/-- Stale aging of the points named by a list of entries (R112, R113). -/
def State.ageEntries (s : State) (es : List Entry) : State :=
  es.foldl (fun t e => t.agePoint e.point) s

end Sys2Proof.Machine
end

