-- ==== Sys2Proof/Machine/Engine.lean ====
section
/-! DEFINITION. The scan engine and the sample ports as shared operations: promotion, pass and run
ends, dispatch, cancel requests, the endings of a conversion, and the moves of run control that
follow a port event (chapters 3, 4, 5 and 10). -/

namespace Sys2Proof.Machine

/-! ### Lists and cursors (R55 to R57) -/

/-- An entry that keeps its pass or run going: PENDING or IN_FLIGHT (R68, R79). -/
def Entry.isOpen (e : Entry) : Bool := e.outcome == .pending || e.outcome == .inFlight

/-- The list an origin names (R67). -/
def Scan.entries (c : Scan) : Origin → List Entry
  | .routine => c.active
  | .priority => c.prio

/-- The scan engine with the list of an origin replaced. -/
def Scan.setEntries (c : Scan) (o : Origin) (es : List Entry) : Scan :=
  match o with
  | .routine => { c with active := es }
  | .priority => { c with prio := es }

/-- The point of the entry at the cursor: the first PENDING entry (R57). -/
def cursorPoint (es : List Entry) : Option PointNo :=
  (es.find? fun e => e.outcome == .pending).map Entry.point

/-- The position of the cursor, or `atEnd` where no entry is PENDING (R57, R81). -/
def cursorPosition (es : List Entry) (atEnd : Nat) : Nat :=
  match es.findIdx? fun e => e.outcome == .pending with
  | some i => i
  | none => atEnd

/-- The list with the outcome `o` written into the entry at the cursor. -/
def resolveCursor (o : EntryOutcome) : List Entry → List Entry
  | [] => []
  | e :: es => if e.outcome = .pending then { e with outcome := o } :: es else e :: resolveCursor o es

/-- The list with every entry at the outcome `o`. -/
def setOutcomes (o : EntryOutcome) (es : List Entry) : List Entry :=
  es.map fun e => { e with outcome := o }

/-- The IN_FLIGHT entry of point `n`, if the list holds it, at the outcome `o` (R67). -/
def resolveInFlight (n : PointNo) (o : EntryOutcome) (es : List Entry) : List Entry :=
  es.map fun e => if e.point = n ∧ e.outcome = .inFlight then { e with outcome := o } else e

/-- The list with every PENDING and IN_FLIGHT entry CANCELLED (R73, R74). -/
def cancelOpen (es : List Entry) : List Entry :=
  es.map fun e => if e.isOpen then { e with outcome := .cancelled } else e

/-- The points of a list's IN_FLIGHT entries. -/
def inFlightPoints (es : List Entry) : List PointNo :=
  (es.filter fun e => e.outcome == .inFlight).map Entry.point

/-- Entries at NONE for a list of points (R50, R60). -/
def freshEntries (ns : List PointNo) : List Entry := ns.map fun n => ⟨n, .none⟩

/-- The state with the entry at the cursor of an origin's list resolved. -/
def State.resolveAtCursor (s : State) (o : Origin) (out : EntryOutcome) : State :=
  s.modScan fun c => c.setEntries o (resolveCursor out (c.entries o))

/-- An ending handed to the scan engine: the IN_FLIGHT entry of the point in the origin's list takes
its outcome, if there is one (R67). -/
def State.handOver (s : State) (o : Origin) (n : PointNo) (out : EntryOutcome) : State :=
  s.modScan fun c => c.setEntries o (resolveInFlight n out (c.entries o))

/-! ### Sample ports (R84 to R98) -/

/-- The outstanding record of a port, present in BUSY and CANCELLING (R85). -/
def Phase.record : Phase → Option ConvRecord
  | .busy r _ | .cancelling r _ => some r
  | .offline | .probing _ | .idle | .faulted => none

/-- The phase with its record changed. -/
def Phase.mapRecord (f : ConvRecord → ConvRecord) : Phase → Phase
  | .busy r t => .busy (f r) t
  | .cancelling r t => .cancelling (f r) t
  | ph => ph

/-- Whether a port is BUSY or CANCELLING (R192). -/
def Phase.draining : Phase → Bool
  | .busy _ _ | .cancelling _ _ => true
  | .offline | .probing _ | .idle | .faulted => false

/-- Whether a port is CANCELLING. -/
def Phase.isCancelling : Phase → Bool
  | .cancelling _ _ => true
  | .offline | .probing _ | .idle | .busy _ _ | .faulted => false

/-- Whether a port is PROBING. -/
def Phase.isProbing : Phase → Bool
  | .probing _ => true
  | .offline | .idle | .busy _ _ | .cancelling _ _ | .faulted => false

/-- A stray is counted, staying at 255, and discarded (R96). -/
def SamplePort.stray (x : SamplePort) : SamplePort :=
  { x with strayCount := min 255 (x.strayCount + 1) }

/-- Entry to PROBING: the timeout count becomes 0, PROBE is sent, the probe timer starts (R97). -/
def SamplePort.enterProbing (x : SamplePort) : SamplePort :=
  { x with phase := .probing Config.probeTicks, timeoutCount := 0, sent := x.sent ++ [.probe] }

/-- Opening a conversion: next seq, record, CONVERT, timer, BUSY (R88, R89). -/
def SamplePort.open (x : SamplePort) (n : PointNo) (r : Route) (o : Origin) : SamplePort :=
  let seq := x.seqCounter + 1#4
  { x with
    phase := .busy ⟨n, seq, o, false, false, x.timeout⟩ x.timeout
    seqCounter := seq
    sent := x.sent ++ [.convert seq r.channel r.settle] }

/-- A cancel request: in BUSY the cancelled flag is set, CANCEL is sent, the timer restarts and the
port goes CANCELLING; in any other state nothing happens (R92). -/
def SamplePort.cancelRequest (x : SamplePort) : SamplePort :=
  match x.phase with
  | .busy r _ =>
    { x with
      phase := .cancelling { r with cancelled := true } r.timerLength
      sent := x.sent ++ [.cancel r.seq] }
  | .offline | .probing _ | .idle | .cancelling _ _ | .faulted => x

/-- A timeout in BUSY: the count rises, CANCEL is sent, the timer restarts, CANCELLING (R91). -/
def SamplePort.timedOut (x : SamplePort) (r : ConvRecord) : SamplePort :=
  { x with
    phase := .cancelling r r.timerLength
    timeoutCount := x.timeoutCount + 1
    sent := x.sent ++ [.cancel r.seq] }

/-- The exit from CANCELLING by an answer: IDLE, or FAULTED at a count of 3 (R93). -/
def SamplePort.released (x : SamplePort) : SamplePort :=
  { x with phase := if x.timeoutCount < 3 then .idle else .faulted }

/-- The order OFFLINE of run control: ports in IDLE, FAULTED and PROBING go OFFLINE (R102, R192). -/
def SamplePort.orderOffline (x : SamplePort) : SamplePort :=
  match x.phase with
  | .idle | .faulted | .probing _ => { x with phase := .offline }
  | .offline | .busy _ _ | .cancelling _ _ => x

/-- A cancel request to the port named by the in-flight mark of point `n` (R73, R92). -/
def State.requestCancel (s : State) (n : PointNo) : State :=
  match (s.pt n).inFlight with
  | some i => s.modPort i SamplePort.cancelRequest
  | none => s

/-- The in-flight mark of a point becomes none at the end of its record, and a RETIRING point becomes
FREE (R7, R19). -/
def State.endRecord (s : State) (n : PointNo) : State :=
  s.modPt n fun x =>
    { x with inFlight := none, state := if x.state = .retiring then .free else x.state }

/-! ### Writing an active profile (R39, R41 to R46) -/

/-- The outstanding conversion that names the point, if there is one, is marked superseded (R45). -/
def State.supersede (s : State) (n : PointNo) : State :=
  match (s.pt n).inFlight with
  | some i =>
    s.modPort i fun x => { x with phase := x.phase.mapRecord fun r => { r with superseded := true } }
  | none => s

/-- The effects of a ROUTE change on value part, condition part, change sets and record (R44, R45). -/
def State.routeEffects (s : State) (n : PointNo) : State :=
  let t := s.modPt n fun x =>
    { x with quality := .unscanned, seeded := false, candidate := none, confirmCounter := 0 }
  (if (s.pt n).quality = .unscanned then t else t.mark n).supersede n

/-- A profile becomes the active profile of point `n`; the effects follow the groups that differ from
those they replace (R41, R44 to R46). -/
def State.writeActive (s : State) (n : PointNo) (pr : Profile) : State :=
  let old := (s.pt n).active
  let t := s.modPt n fun x => { x with active := pr }
  let u := if old.scale = pr.scale then t else t.modPt n fun x => { x with seeded := false }
  if old.route = pr.route then u else u.routeEffects n

/-- Promotion of the staged profile of one point, if it has one (R43). -/
def State.promotePoint (s : State) (n : PointNo) : State :=
  match (s.pt n).staged with
  | some pr => (s.modPt n fun x => { x with staged := none }).writeActive n pr
  | none => s

/-- Promotion of every staged profile (R42, R43). -/
def State.promoteProfiles (s : State) : State :=
  (s.points.indices fun x => x.staged.isSome).foldl State.promotePoint s

/-- Promotion of the staged routine list, if one exists (R50). -/
def Scan.promoteList (c : Scan) : Scan :=
  match c.staged with
  | some ns => { c with active := freshEntries ns, staged := none }
  | none => c

/-- A promotion: every staged profile and the staged routine list (R42). -/
def State.promote (s : State) : State := s.promoteProfiles.modScan Scan.promoteList

/-! ### Pass and run ends (R64, R68, R69, R77, R79, R82) -/

/-- The scanner goes IDLE: stop-requested and the late mark clear, the period timer stops (R69). -/
def Scan.goIdle (c : Scan) : Scan :=
  { c with scanner := .idle, stopRequested := false, late := false, periodTimer := none }

/-- A pass start: PASS, every routine entry PENDING, late mark clear, CYM low (R64, R82). -/
def Scan.startPass (c : Scan) : Scan :=
  { c with scanner := .pass, active := setOutcomes .pending c.active, late := false, cym := false }

/-- Where the scanner goes at a pass-end (R69). -/
def Scan.afterPass (c : Scan) (halted : Bool) : Scan :=
  if halted ∨ c.stopRequested ∨ c.scanMode = .oneShot then c.goIdle
  else if c.late then c.startPass
  else { c with scanner := .gap }

/-- The pass-end: promotion, aging by the list of the pass that ended, pass counter, CYM high, next
scanner state (R68, R112). -/
def State.passEnd (s : State) (halted : Bool) : State :=
  ((s.promoteProfiles.ageEntries s.scan.active).modScan Scan.promoteList).modScan fun c =>
    { c with passCounter := c.passCounter + 1#16, cym := true }.afterPass halted

/-- A run start: priority-active, every priority entry PENDING (R77). -/
def Scan.startRun (c : Scan) : Scan :=
  { c with prioActive := true, prio := setOutcomes .pending c.prio }

/-- The run end: prio-done, then the held rerun or the end of priority dispatch (R79). -/
def State.runEnd (s : State) : State :=
  (s.modAttn fun a => { a with prioDone := true }).modScan fun c =>
    if c.rerun then { c with rerun := false }.startRun else { c with prioActive := false }

/-- Whether the pass in progress has nothing PENDING or IN_FLIGHT left (R68). -/
def Scan.passOver (c : Scan) : Bool := c.scanner == .pass && !c.active.any Entry.isOpen

/-- Whether the run in progress has nothing PENDING or IN_FLIGHT left (R79). -/
def Scan.runOver (c : Scan) : Bool := c.prioActive && !c.prio.any Entry.isOpen

/-! ### Dispatch (R65, R66, R89) -/

/-- What the examination of the entry at a cursor comes to (R65). -/
inductive Examination where
  | skipped | faulted | dispatched | waits
  deriving DecidableEq, Repr

/-- The examination of an entry for a point, by the first line of R65 that applies. -/
def State.examine (s : State) (n : PointNo) : Examination :=
  if (s.pt n).state = .live then
    match (s.port (s.pt n).active.route.port).phase with
    | .offline | .faulted => .faulted
    | .idle => if (s.pt n).inFlight = none then .dispatched else .waits
    | .probing _ | .busy _ _ | .cancelling _ _ => .waits
  else .skipped

/-- Dispatch of a point to the port of its ROUTE group (R66, R89). -/
def State.dispatch (s : State) (o : Origin) (n : PointNo) : State :=
  let r := (s.pt n).active.route
  ((s.resolveAtCursor o .inFlight).modPt n fun x => { x with inFlight := some r.port }).modPort r.port
    fun x => x.open n r o

/-- The list dispatch is in force for: the priority list during a run, else the routine list in PASS
(R65). -/
def Scan.inForce (c : Scan) : Option Origin :=
  if c.prioActive then some .priority
  else if c.scanner = .pass then some .routine
  else none

/-- One examination at the cursor of a list; `none` where the entry waits or the cursor stands at the
end (R65, R66). -/
def State.examineCursor (s : State) (o : Origin) : Option State :=
  match cursorPoint (s.scan.entries o) with
  | none => none
  | some n =>
    match s.examine n with
    | .skipped => some (s.resolveAtCursor o .skipped)
    | .faulted => some ((s.resolveAtCursor o .faulted).faultPoint n)
    | .dispatched => some (s.dispatch o n)
    | .waits => none

/-- One move of the scan engine within an event: a pass-end, else a run end, else an examination
(R67). `none` where it has nothing to do. -/
def State.engineMove (s : State) : Option State :=
  if s.scan.passOver then some (s.passEnd false)
  else if s.scan.runOver then some s.runEnd
  else
    match s.scan.inForce with
    | some o => s.examineCursor o
    | none => none

/-- The moves of the scan engine, at most `fuel` of them. -/
def settleWithin : Nat → State → State
  | 0, s => s
  | fuel + 1, s =>
    match s.engineMove with
    | some t => settleWithin fuel t
    | none => s

/-- A bound on the moves one event can lead to: every entry of the pass in progress and of the one a
late mark starts, every entry of the run in progress and of a held rerun, and their ends. -/
def Scan.moveBound (c : Scan) : Nat :=
  2 * c.active.length + (c.staged.getD []).length + 2 * c.prio.length + 4

/-- The scan engine's part of an event, taken until nothing is left to do (R65, R67). -/
def State.settle (s : State) : State := settleWithin s.scan.moveBound s

/-! ### Withdrawals (R73, R74) -/

/-- The PENDING and IN_FLIGHT entries of a list become CANCELLED, with a cancel request for each
IN_FLIGHT one (R73, R74). -/
def State.withdraw (s : State) (o : Origin) : State :=
  ((inFlightPoints (s.scan.entries o)).foldl State.requestCancel s).modScan fun c =>
    c.setEntries o (cancelOpen (c.entries o))

/-- A priority run is aborted: its entries withdrawn, priority-active and rerun-requested clear
(R74). -/
def State.abortRun (s : State) : State :=
  if s.scan.prioActive then
    (s.withdraw .priority).modScan fun c => { c with rerun := false, prioActive := false }
  else s

/-- The halt of SCAN_HALT and of quiet entry (R74). -/
def State.halt (s : State) : State :=
  (match s.scan.scanner with
    | .pass => (s.withdraw .routine).passEnd true
    | .gap => s.promote.modScan Scan.goIdle
    | .idle => s.modScan Scan.goIdle).abortRun

/-- A priority request: a run starts, or a rerun is held, or the request is lost (R76 to R78). -/
def State.requestRun (s : State) : State :=
  if s.scan.prioActive then
    if s.scan.rerun then s.modAttn fun a => { a with prioLost := true }
    else s.modScan fun c => { c with rerun := true }
  else (s.modScan Scan.startRun).settle

/-! ### Moves of run control after a port event (R189, R192) -/

/-- Entry to ACTIVE with the wake guard started (R190). -/
def State.enterActive (s : State) : State := s.setRun ⟨.active, some Config.wakeGuardTicks⟩

/-- At the end of a probe in WAKING: ACTIVE when no port is PROBING any longer (R189). -/
def State.probeEnded (s : State) : State :=
  if s.run.mode = .waking ∧ (s.ports.any fun x => x.phase.isProbing) = false then s.enterActive
  else s

/-- Every port is ordered OFFLINE and the mode becomes QUIET (R192). -/
def State.goQuiet (s : State) : State :=
  { s with ports := s.ports.map SamplePort.orderOffline }.setMode .quiet

/-- At the end of a drain in QUIESCING: QUIET when no port is BUSY or CANCELLING (R192). -/
def State.drainEnded (s : State) : State :=
  if s.run.mode = .quiescing ∧ (s.ports.any fun x => x.phase.draining) = false then s.goQuiet
  else s

/-! ### Endings at a port (R90 to R94) -/

/-- A matching RESULT taken in BUSY (R90): the record ends, the result is processed for a LIVE point
whose record is not superseded and discarded otherwise, and the entry resolves. -/
def State.takeResult (s : State) (i : PortNo) (r : ConvRecord) (code : BitVec 16) (range : RangeFlag) :
    State :=
  let t := (s.modPort i fun x => { x with phase := .idle, timeoutCount := 0 }).endRecord r.point
  if r.superseded = false ∧ (s.pt r.point).state = .live then
    ((t.processResult r.point code range).handOver r.origin r.point .done).settle
  else (t.handOver r.origin r.point .skipped).settle

/-- A matching answer taken in CANCELLING (R93). -/
def State.takeRelease (s : State) (i : PortNo) (r : ConvRecord) : State :=
  (((s.modPort i SamplePort.released).endRecord r.point).settle).drainEnded

/-- Expiry of the conversion timer in BUSY (R91). -/
def State.takeTimeout (s : State) (i : PortNo) (r : ConvRecord) : State :=
  let t := s.modPort i fun x => x.timedOut r
  let u := if r.superseded = false ∧ (s.pt r.point).state = .live then t.faultPoint r.point else t
  (u.handOver r.origin r.point .faulted).settle

/-- Expiry of the conversion timer in CANCELLING (R94). -/
def State.takeCancelExpiry (s : State) (i : PortNo) (r : ConvRecord) : State :=
  (((s.modPort i fun x => { x with phase := .faulted }).endRecord r.point).settle).drainEnded

/-- A message of the converter received by port `i` (R90, R93, R96, R97). -/
def State.receive (s : State) (i : PortNo) (m : LinkRx) : State :=
  match m, (s.port i).phase with
  | .result seq code range, .busy r _ =>
    if seq = r.seq then s.takeResult i r code range else s.modPort i SamplePort.stray
  | .result seq _ _, .cancelling r _ =>
    if seq = r.seq then s.takeRelease i r else s.modPort i SamplePort.stray
  | .cancelAck seq, .cancelling r _ =>
    if seq = r.seq then s.takeRelease i r else s.modPort i SamplePort.stray
  | .present cls, .probing _ =>
    ((s.modPort i fun x => { x with phase := .idle, cls := some cls, absent := false }).probeEnded).settle
  | _, _ => s.modPort i SamplePort.stray

end Sys2Proof.Machine
end

