-- ==== Sys2Proof/Machine/Executor.lean ====
section
/-! DEFINITION. The command executor: which waiting command it takes, the checks before a command's
own rule, and the response (R171 to R174, R187); and the frame around an event that reaches the part
from outside. -/

namespace Sys2Proof.Machine

/-- What a command's rule answers: a status and its data. -/
structure Answer where
  status : Status
  data : List Byte
  deriving DecidableEq, Repr

/-- A command refused with a status: no data, nothing changed (R174). -/
def refuse (st : Status) (s : State) : Answer × State := (⟨st, []⟩, s)

/-- A command answered OK with its data and the state it leaves. -/
def accept (data : List Byte) (s : State) : Answer × State := (⟨.ok, data⟩, s)

/-! ### Mode admission (R187) -/

/-- The classes of R187: executed in every mode; needing ACTIVE; refused in WAKING and QUIESCING. -/
inductive Admission where
  | always | activeOnly | settledModes
  deriving DecidableEq, Repr

/-- The line of R187 a command stands in. -/
def admissionOf : Cmd → Admission
  | .find | .readProfile | .readValue | .readChanged | .rlistRead | .plistRead | .condRead
  | .portStatus | .scanStatus | .status | .identify => .always
  | .softReset => .always
  | .scanStart | .runPriority | .portRestore => .activeOnly
  | .define | .edit | .activate | .park | .unpark | .retire | .hold | .release
  | .rlistInsert | .rlistRemove | .rlistClear | .plistSet
  | .scanStop | .scanHalt | .skipPass | .abortPoint | .scanConfig
  | .ack | .ackUpto | .condClear | .portConfig | .clearFlags | .attnMask
  | .enterQuiet | .exitQuiet => .settledModes

/-- The status with which the mode refuses a command, or `none` where it admits it (R187). -/
def refusalOfMode (a : Admission) (m : Mode) : Option Status :=
  match a, m with
  | .always, _ => none
  | _, .active => none
  | _, .waking | _, .quiescing => some .busy
  | .activeOnly, .quiet => some .quiet
  | .settledModes, .quiet => none

/-! ### Taking a command (R171, R172) -/

/-- The command waiting at a port. -/
def CmdPortState.frame? : CmdPortState → Option Frame
  | .waiting f => some f
  | .ready | .done _ => none

/-- Whether a port is WAITING. -/
def State.isWaiting (s : State) (p : CmdPort) : Bool := (s.cmd p).state.frame?.isSome

/-- The port whose command the executor takes: the one WAITING, or of two the one not served last
(R171). -/
def State.chosenPort (s : State) : Option CmdPort :=
  match s.isWaiting .host, s.isWaiting .service with
  | true, true => some (otherPort s.servedLast)
  | true, false => some .host
  | false, true => some .service
  | false, false => none

/-- Whether the executor takes, from port `p`, the command with this opcode and these parameters. -/
def State.takes (s : State) (p : CmdPort) (opcode : Byte) (ps : List Byte) : Bool :=
  !s.heldInReset && s.chosenPort == some p && (s.cmd p).state.frame? == some ⟨opcode, ps⟩

/-- The end of an execution: the port served last is the command's port, which goes DONE with the
response, carrying the overlap mark as it stands (R171, R172, R174). -/
def respond (p : CmdPort) (r : Answer × State) : State :=
  (r.2.setServed p).modCmd p fun c =>
    { c with state := .done ⟨r.1.status, c.overlap, r.1.data⟩ }

/-- The checks of R173 before a command's own rule: mode admission, then the length. -/
def checked (c : Cmd) (ps : List Byte) (own : State → Answer × State) (s : State) : Answer × State :=
  match refusalOfMode (admissionOf c) s.run.mode with
  | some st => refuse st s
  | none => if lengthFits c ps.length then own s else refuse .badParam s

/-- The execution of command `c` with parameters `ps` taken from port `p` (R172). Where the executor
takes no such command there, the step does not happen and nothing changes (log entry 2). -/
def runCommand (c : Cmd) (p : CmdPort) (ps : List Byte) (own : State → Answer × State) (s : State) :
    StepOutcome :=
  if s.takes p (opcodeOf c) ps then .next (respond p (checked c ps own s)) else .next s

/-- An event from outside: taken with its effect, but ignored while the part is held in reset (R196). -/
def onEvent (f : State → State) (s : State) : StepOutcome :=
  if s.heldInReset then .next s else .next (f s)

/-! ### Naming and holding a point (R29, R30, R148) -/

/-- A command's own rule on the point its selector names (R30). -/
def withPoint (ps : List Byte) (i : Nat) (rule : PointNo → State → Answer × State) (s : State) :
    Answer × State :=
  match s.resolve (selectorAt ps i) with
  | .error st => refuse st s
  | .ok n => rule n s

/-- The hold check: HELD with the remaining time of the hold that refuses the command (R148, R174). -/
def unlessHeld (p : CmdPort) (n : PointNo) (rule : State → Answer × State) (s : State) :
    Answer × State :=
  match s.blockingHold p n with
  | some h => (⟨.held, [byteOf (reportedTime h.left)]⟩, s)
  | none => rule s

end Sys2Proof.Machine
end

