-- ==== Sys2Proof/Machine/AccessCommands.lean ====
section
/-! DEFINITION. The access group: HOLD and RELEASE. -/

namespace Sys2Proof.Machine

/-- The hold table with the remaining time of the hold on a point set afresh (R147). -/
def renewedHolds (hs : List HoldRecord) (n : PointNo) (left : Nat) : List HoldRecord :=
  hs.map fun h => if h.point = n then { h with left := left } else h

/-- The data of an accepted HOLD: CREATED or RENEWED, the point number, the remaining time (R147). -/
def holdData (renewed : Bool) (n : PointNo) (time : Nat) : List Byte :=
  [flagByte renewed] ++ pointBytes n ++ [byteOf time]

/-- HOLD's own rule (R147). -/
def holdRule (p : CmdPort) (ps : List Byte) : State → Answer × State :=
  withPoint ps 0 fun n s =>
    let time := numAt ps 5
    let left := time * Config.holdUnit
    if time = 0 then refuse .badParam s
    else
      unlessHeld p n
        (fun s =>
          if (s.holdOn n).isSome then
            accept (holdData true n time)
              ((s.setHolds (renewedHolds s.holds n left)).forgetExpired p n)
          else if Config.holdCapacity ≤ s.holds.length then refuse .noHoldSpace s
          else
            accept (holdData false n time)
              ((s.setHolds (s.holds ++ [⟨p, n, left⟩])).forgetExpired p n))
        s

/-- HOLD (R147). -/
def execHold (p : CmdPort) (ps : List Byte) (s : State) : StepOutcome :=
  runCommand .hold p ps (holdRule p ps) s

/-- RELEASE's own rule (R150). -/
def releaseRule (p : CmdPort) (ps : List Byte) : State → Answer × State :=
  withPoint ps 0 fun n s =>
    match s.holds.find? fun h => h.point = n ∧ h.port = p with
    | some h =>
      accept [byteOf (reportedTime h.left)]
        (s.setHolds (s.holds.filter fun h => ¬ (h.point = n ∧ h.port = p)))
    | none =>
      if (s.cmd p).lastExpired = some n then (⟨.expired, []⟩, s.forgetExpired p n)
      else refuse .notHeld s

/-- RELEASE (R150). -/
def execRelease (p : CmdPort) (ps : List Byte) (s : State) : StepOutcome :=
  runCommand .release p ps (releaseRule p ps) s

end Sys2Proof.Machine
end

