-- ==== Sys2Proof/Machine/ListCommands.lean ====
section
/-! DEFINITION. The list group: RLIST_INSERT, RLIST_REMOVE, RLIST_CLEAR, RLIST_READ, PLIST_SET and
PLIST_READ. -/

namespace Sys2Proof.Machine

/-! ### Routine-list edits (R48, R58, R59) -/

/-- Whether a routine-list edit applies to the staged list: in PASS and GAP (R48). -/
def Scan.editsStaged (c : Scan) : Bool := c.scanner != .idle

/-- The points of the list a routine-list edit is checked against: the active list in IDLE; else the
staged list, or the copy of the active list that would be made (R48). -/
def Scan.editTarget (c : Scan) : List PointNo :=
  if c.editsStaged then c.staged.getD (c.active.map Entry.point) else c.active.map Entry.point

/-- A list with `x` placed at a position. -/
def insertAt {α : Type} (l : List α) (k : Nat) (x : α) : List α := l.take k ++ x :: l.drop k

/-- The list concerned, ACTIVE or STAGED, and its new length (R58, R59). -/
def listData (staged : Bool) (length : Nat) : List Byte := [choiceCode staged] ++ num16 length

/-- An accepted insertion (R58). -/
def Scan.insertPoint (c : Scan) (k : Nat) (n : PointNo) : Scan :=
  if c.editsStaged then { c with staged := some (insertAt c.editTarget k n) }
  else { c with active := insertAt c.active k ⟨n, .none⟩ }

/-- An accepted removal (R59). -/
def Scan.removePoint (c : Scan) (n : PointNo) : Scan :=
  if c.editsStaged then { c with staged := some (c.editTarget.filter fun m => m ≠ n) }
  else { c with active := c.active.filter fun e => e.point ≠ n }

/-- An accepted clear (R59). -/
def Scan.clearList (c : Scan) : Scan :=
  if c.editsStaged then { c with staged := some [] } else { c with active := [] }

/-- RLIST_INSERT's own rule (R58). -/
def rlistInsertRule (ps : List Byte) : State → Answer × State :=
  withPoint ps 2 fun n s =>
    let l := s.scan.editTarget
    if l.length < numAt16 ps 0 then refuse .badParam s
    else if Config.routineCapacity ≤ l.length then refuse .listFull s
    else if n ∈ l then refuse .duplicate s
    else
      accept (listData s.scan.editsStaged (l.length + 1))
        (s.modScan fun c => c.insertPoint (numAt16 ps 0) n)

/-- RLIST_INSERT (R58). -/
def execRlistInsert (p : CmdPort) (ps : List Byte) (s : State) : StepOutcome :=
  runCommand .rlistInsert p ps (rlistInsertRule ps) s

/-- RLIST_REMOVE's own rule (R59). -/
def rlistRemoveRule (ps : List Byte) : State → Answer × State :=
  withPoint ps 0 fun n s =>
    if n ∈ s.scan.editTarget then
      let t := s.modScan fun c => c.removePoint n
      accept (listData s.scan.editsStaged t.scan.editTarget.length) t
    else refuse .notListed s

/-- RLIST_REMOVE (R59). -/
def execRlistRemove (p : CmdPort) (ps : List Byte) (s : State) : StepOutcome :=
  runCommand .rlistRemove p ps (rlistRemoveRule ps) s

/-- RLIST_CLEAR (R59). -/
def execRlistClear (p : CmdPort) (ps : List Byte) (s : State) : StepOutcome :=
  runCommand .rlistClear p ps
    (fun s => accept (listData s.scan.editsStaged 0) (s.modScan Scan.clearList)) s

/-! ### Reading the lists (R51, R61) -/

/-- A returned entry with its outcome (R203). -/
def entryData (e : Entry) : List Byte := pointBytes e.point ++ [outcomeCode e.outcome]

/-- A returned entry of the staged list (R202, R203). -/
def stagedEntryData (n : PointNo) : List Byte := pointBytes n ++ [stagedOutcomeCode]

/-- The entries returned from a start position, at most `most` of them (R51, R61, R138). -/
def window {α : Type} (l : List α) (start most : Nat) : List α := (l.drop start).take most

/-- RLIST_READ's own rule (R51). -/
def rlistReadRule (ps : List Byte) (s : State) : Answer × State :=
  let start := numAt ps 1
  let most := numAt ps 2
  match flagOf (byteAt ps 0) with
  | none => refuse .badParam s
  | some staged =>
    if most = 0 ∨ 16 < most then refuse .badParam s
    else
      match (if staged then s.scan.staged else none) with
      | some ns =>
        let w := window ns start most
        accept (listData true ns.length ++ [byteOf w.length] ++ w.flatMap stagedEntryData) s
      | none =>
        let w := window s.scan.active start most
        accept (listData false s.scan.active.length ++ [byteOf w.length] ++ w.flatMap entryData) s

/-- RLIST_READ (R51). -/
def execRlistRead (p : CmdPort) (ps : List Byte) (s : State) : StepOutcome :=
  runCommand .rlistRead p ps (rlistReadRule ps) s

/-- PLIST_READ's own rule (R61). -/
def plistReadRule (ps : List Byte) (s : State) : Answer × State :=
  let start := numAt ps 0
  let most := numAt ps 1
  if 15 < start ∨ most = 0 ∨ 16 < most then refuse .badParam s
  else
    let w := window s.scan.prio start most
    accept ([byteOf s.scan.prio.length, byteOf w.length] ++ w.flatMap entryData) s

/-- PLIST_READ (R61). -/
def execPlistRead (p : CmdPort) (ps : List Byte) (s : State) : StepOutcome :=
  runCommand .plistRead p ps (plistReadRule ps) s

/-! ### PLIST_SET (R60) -/

/-- The point numbers a PLIST_SET carries. -/
def plistNumbers (ps : List Byte) : List Nat :=
  (List.range (numAt ps 0)).map fun i => numAt16 ps (1 + 2 * i)

/-- Each number resolved as a point named by number; `none` where one does not resolve (R30, R60). -/
def State.resolveAll (s : State) : List Nat → Option (List PointNo)
  | [] => some []
  | k :: ks =>
    match s.resolveNumber k, s.resolveAll ks with
    | some n, some ns => some (n :: ns)
    | _, _ => none

/-- PLIST_SET's own rule (R60). -/
def plistSetRule (ps : List Byte) (s : State) : Answer × State :=
  if Config.priorityCapacity < numAt ps 0 ∨ ps.length ≠ 1 + 2 * numAt ps 0 then refuse .badParam s
  else if s.scan.prioActive then refuse .busy s
  else
    match s.resolveAll (plistNumbers ps) with
    | none => refuse .noPoint s
    | some ns =>
      if ns.Nodup then accept [] (s.modScan fun c => { c with prio := freshEntries ns })
      else refuse .duplicate s

/-- PLIST_SET (R60). -/
def execPlistSet (p : CmdPort) (ps : List Byte) (s : State) : StepOutcome :=
  runCommand .plistSet p ps (plistSetRule ps) s

end Sys2Proof.Machine
end

