-- ==== Sys2Proof/Machine/ConditionCommands.lean ====
section
/-! DEFINITION. The condition group: COND_READ, ACK, ACK_UPTO and COND_CLEAR. -/

namespace Sys2Proof.Machine

/-- A returned condition entry (R138, R203). -/
def condEntryData (e : CondEntry) : List Byte :=
  pointBytes e.point ++ bytes32 e.seq
    ++ [levelCode e.level, levelCode e.peak, flagByte e.acknowledged, byteOf e.repeats]

/-- COND_READ's own rule (R138). -/
def condReadRule (ps : List Byte) (s : State) : Answer × State :=
  let start := numAt ps 0
  let most := numAt ps 1
  if 63 < start ∨ most = 0 ∨ 8 < most then refuse .badParam s
  else
    let w := window s.cond.list start most
    accept
      ([byteOf s.cond.list.length] ++ num16 (s.points.count fun x => x.unlisted)
        ++ [byteOf w.length] ++ w.flatMap condEntryData) s

/-- COND_READ (R138). -/
def execCondRead (p : CmdPort) (ps : List Byte) (s : State) : StepOutcome :=
  runCommand .condRead p ps (condReadRule ps) s

/-- ACK's own rule (R135). -/
def ackRule (ps : List Byte) : State → Answer × State :=
  withPoint ps 0 fun n s =>
    match s.entryOf n with
    | none => refuse .notListed s
    | some e => accept (bytes32 e.seq ++ [flagByte (s.ackRemoves e)]) (s.ackEntry e)

/-- ACK (R135). -/
def execAck (p : CmdPort) (ps : List Byte) (s : State) : StepOutcome :=
  runCommand .ack p ps (ackRule ps) s

/-- The range of ACK_UPTO: the entries from the head up to the first that carries the raise sequence,
that one included; `none` where no entry carries it (R136). -/
def ackRange (es : List CondEntry) (seq : BitVec 32) : Option (List CondEntry) :=
  (es.findIdx? fun e => e.seq == seq).map fun i => es.take (i + 1)

/-- ACK_UPTO's own rule (R136). -/
def ackUptoRule (ps : List Byte) (s : State) : Answer × State :=
  match ackRange s.cond.list (wordAt32 ps 0) with
  | none => refuse .notListed s
  | some es =>
    accept [byteOf (es.countP fun e => !e.acknowledged), byteOf (es.countP s.ackRemoves)]
      (es.foldl State.ackEntry s)

/-- ACK_UPTO (R136). -/
def execAckUpto (p : CmdPort) (ps : List Byte) (s : State) : StepOutcome :=
  runCommand .ackUpto p ps (ackUptoRule ps) s

/-- COND_CLEAR's own rule (R137). -/
def condClearRule (ps : List Byte) : State → Answer × State :=
  withPoint ps 0 fun n s =>
    match s.entryOf n with
    | none => refuse .notListed s
    | some e =>
      if e.acknowledged = true ∧ e.level = .normal then accept (bytes32 e.seq) (s.removeEntry n)
      else refuse .badState s

/-- COND_CLEAR (R137). -/
def execCondClear (p : CmdPort) (ps : List Byte) (s : State) : StepOutcome :=
  runCommand .condClear p ps (condClearRule ps) s

end Sys2Proof.Machine
end

