-- ==== Sys2Proof/Machine/DeviceCommands.lean ====
section
/-! DEFINITION. The device group: STATUS, CLEAR_FLAGS, ATTN_MASK, IDENTIFY, ENTER_QUIET, EXIT_QUIET and
SOFT_RESET. -/

namespace Sys2Proof.Machine

/-! ### STATUS and IDENTIFY -/

/-- The priority flags byte of STATUS (R203). -/
def priorityFlags (s : State) : Byte :=
  byteOf ((if s.scan.prioActive then 1 else 0) + (if s.scan.rerun then 2 else 0)
    + (if s.attn.prioDone then 4 else 0) + (if s.attn.prioLost then 8 else 0))

/-- The data of STATUS (R176, R203). -/
def statusData (s : State) : List Byte :=
  [modeCode s.run.mode, flagByte s.run.wakeGuard.isSome, scannerCode s.scan.scanner, priorityFlags s,
      maskByte s.sources, maskByte s.attn.mask, flagByte (!s.attnLow)]
    ++ num16 s.pointsInUse ++ [byteOf s.cond.list.length, byteOf s.holds.length]
    ++ bytes16 s.scan.passCounter

/-- STATUS (R176). -/
def execStatus (p : CmdPort) (ps : List Byte) (s : State) : StepOutcome :=
  runCommand .status p ps (fun s => accept (statusData s) s) s

/-- The data of IDENTIFY (R177, R203). -/
def identifyData : List Byte :=
  [Config.vendorCode] ++ bytes16 Config.partCode ++ [Config.siliconRevision]

/-- IDENTIFY (R177). -/
def execIdentify (p : CmdPort) (ps : List Byte) (s : State) : StepOutcome :=
  runCommand .identify p ps (fun s => accept identifyData s) s

/-! ### CLEAR_FLAGS and ATTN_MASK -/

/-- CLEAR_FLAGS's own rule (R178). -/
def clearFlagsRule (ps : List Byte) (s : State) : Answer × State :=
  match maskOf (byteAt ps 0) with
  | none => refuse .badParam s
  | some m =>
    let t := s.modAttn fun a => a.clearNamed m
    accept [maskByte t.sources] t

/-- CLEAR_FLAGS (R178). -/
def execClearFlags (p : CmdPort) (ps : List Byte) (s : State) : StepOutcome :=
  runCommand .clearFlags p ps (clearFlagsRule ps) s

/-- ATTN_MASK's own rule (R179). -/
def attnMaskRule (ps : List Byte) (s : State) : Answer × State :=
  match maskOf (byteAt ps 0) with
  | none => refuse .badParam s
  | some m =>
    accept [maskByte s.attn.mask, maskByte m] (s.modAttn fun a => { a with mask := m })

/-- ATTN_MASK (R179). -/
def execAttnMask (p : CmdPort) (ps : List Byte) (s : State) : StepOutcome :=
  runCommand .attnMask p ps (attnMaskRule ps) s

/-! ### ENTER_QUIET and EXIT_QUIET -/

/-- Steps 1 and 2 of quiet entry: the halt, then a cancel request to each port still BUSY (R191). -/
def State.withdrawAll (s : State) : State :=
  { s.halt with ports := s.halt.ports.map SamplePort.cancelRequest }

/-- An accepted ENTER_QUIET in ACTIVE (R191). -/
def State.enterQuiet (s : State) : State :=
  if s.withdrawAll.ports.any fun x => x.phase.isCancelling then s.withdrawAll.setMode .quiescing
  else s.withdrawAll.goQuiet

/-- The number of ports CANCELLING. -/
def State.cancellingPorts (s : State) : Nat := s.ports.count fun x => x.phase.isCancelling

/-- ENTER_QUIET's own rule (R191). DEDUCED (log entry 10): the data in QUIET. -/
def enterQuietRule (s : State) : Answer × State :=
  if s.run.mode = .quiet then accept [modeCode .quiet, 0x00#8] s
  else if s.run.wakeGuard.isSome then refuse .busy s
  else accept [modeCode s.enterQuiet.run.mode, byteOf s.enterQuiet.cancellingPorts] s.enterQuiet

/-- ENTER_QUIET (R191). -/
def execEnterQuiet (p : CmdPort) (ps : List Byte) (s : State) : StepOutcome :=
  runCommand .enterQuiet p ps enterQuietRule s

/-- The number of ports whose enable is on. -/
def State.enabledPorts (s : State) : Nat := s.ports.count fun x => x.enable

/-- Every port whose enable is on enters PROBING (R188). -/
def State.probeEnabled (s : State) : State :=
  { s with ports := s.ports.map fun x => if x.enable then x.enterProbing else x }

/-- An accepted EXIT_QUIET in QUIET (R188). -/
def State.exitQuiet (s : State) : State :=
  if s.enabledPorts = 0 then s.enterActive else s.probeEnabled.setMode .waking

/-- EXIT_QUIET's own rule (R188). DEDUCED (log entry 10): the data in ACTIVE. -/
def exitQuietRule (s : State) : Answer × State :=
  if s.run.mode = .quiet then
    accept [modeCode s.exitQuiet.run.mode, byteOf s.enabledPorts] s.exitQuiet
  else accept [modeCode s.run.mode, 0x00#8] s

/-- EXIT_QUIET (R188). -/
def execExitQuiet (p : CmdPort) (ps : List Byte) (s : State) : StepOutcome :=
  runCommand .exitQuiet p ps exitQuietRule s

/-! ### SOFT_RESET -/

/-- A record at SOFT_RESET (R22). -/
def Point.softReset (x : Point) : Point :=
  let y := { x with
    state := if x.state = .retiring then .free else x.state
    staged := none
    inFlight := none
    unlisted := false }
  if x.state.named then
    { y with
      quality := .unscanned
      age := 0
      seeded := false
      level := .normal
      candidate := none
      confirmCounter := 0
      peak := .normal }
  else y

/-- The scan engine at SOFT_RESET (R83). -/
def Scan.softReset (c : Scan) : Scan :=
  { c with
    scanner := .idle
    stopRequested := false
    late := false
    periodTimer := none
    active := setOutcomes .none c.active
    staged := none
    prioActive := false
    rerun := false
    prio := setOutcomes .none c.prio
    cym := false }

/-- A sample port at SOFT_RESET (R104). -/
def SamplePort.softReset (x : SamplePort) : SamplePort :=
  { x with phase := .offline, timeoutCount := 0 }

/-- A command port at SOFT_RESET: its last-expired-hold record becomes none, and a waiting command of
the other port is answered ABANDONED (R151, R185). -/
def CommandPort.softReset (c : CommandPort) (issuing : Bool) : CommandPort :=
  { c with
    lastExpired := none
    state :=
      match c.state with
      | .waiting f => if issuing then .waiting f else .done ⟨.abandoned, c.overlap, []⟩
      | st => st }

/-- SOFT_RESET issued from port `p`, but for the response to `p` itself (R195 and the rules it
gathers: R22, R35, R83, R104, R144, R154, R161, R185). -/
def State.softReset (s : State) (p : CmdPort) : State :=
  { s with
    points := s.points.map Point.softReset
    scan := s.scan.softReset
    ports := s.ports.map SamplePort.softReset
    cond := { list := [], raiseSeq := s.cond.raiseSeq }
    holds := []
    changed := ⟨ChangeSet.initial, ChangeSet.initial⟩
    cmdPorts :=
      ⟨s.cmdPorts.host.softReset (p == .host), s.cmdPorts.service.softReset (p == .service)⟩
    attn := s.attn.clearSticky
    run := ⟨.quiet, none⟩ }

/-- SOFT_RESET (R195). -/
def execSoftReset (p : CmdPort) (ps : List Byte) (s : State) : StepOutcome :=
  runCommand .softReset p ps (fun s => accept [modeCode s.run.mode] (s.softReset p)) s

end Sys2Proof.Machine
end

