-- ==== Sys2Proof/Machine/Frames.lean ====
section
/-! DEFINITION. The command ports as events: arrival of a frame, begin and end of a fetch, and a taken
command whose opcode names none (R163 to R170, R173, R200). -/

namespace Sys2Proof.Machine

/-! ### A taken command of no name -/

/-- A taken command whose opcode names no command: UNKNOWN in every mode, nothing changed (R173). -/
def execUnknownOpcode (p : CmdPort) (opcode : Byte) (ps : List Byte) (s : State) : StepOutcome :=
  if s.takes p opcode ps && (commandOf opcode).isNone then .next (respond p (refuse .unknown s))
  else .next s

/-! ### Arrival of a frame -/

/-- The port with its response buffer no longer the one a fetch in progress returns. -/
def CommandPort.loseBuffer (c : CommandPort) : CommandPort :=
  { c with fetching := c.fetching.map fun f => { f with fromBuffer := false } }

/-- A frame that arrives at a command port: dropped with the overlap mark in WAITING (R167); else
taken if valid (R166), and answered FRAME if not (R165). -/
def CommandPort.arrive (c : CommandPort) (bytes : List Byte) : CommandPort :=
  match c.state with
  | .waiting _ => { c with overlap := true }
  | .ready | .done _ =>
    match parseFrame bytes with
    | some f => { c.loseBuffer with state := .waiting f, overlap := false }
    | none => { c.loseBuffer with state := .done ⟨.frame, false, []⟩ }

/-! ### Fetches -/

/-- The response frame a fetch that begins now returns, and whether it is the response buffer (R168,
R169). -/
def CommandPort.answerFetch (c : CommandPort) : FetchInProgress :=
  match c.state with
  | .done r => ⟨responseBytes r, true⟩
  | .waiting _ => ⟨responseBytes (notReadyMarker c.overlap true), false⟩
  | .ready => ⟨responseBytes (notReadyMarker c.overlap false), false⟩

/-- A fetch begins (R168, R169). -/
def CommandPort.beginFetch (c : CommandPort) : CommandPort :=
  { c with fetching := some c.answerFetch }

/-- The port state at the end of a fetch that returned `f` and delivered `n` bytes: READY where the
whole response of the buffer was delivered, else unchanged (R168, R169). -/
def CmdPortState.afterFetch (st : CmdPortState) (f : FetchInProgress) (n : Nat) : CmdPortState :=
  match st with
  | .done r => if f.fromBuffer ∧ f.bytes.length ≤ n then .ready else .done r
  | st => st

/-- The fetch in progress ends after `n` bytes; on SPI the fetch byte drew one FFh before them (R168,
R200). -/
def CommandPort.endFetch (c : CommandPort) (p : CmdPort) (n : Nat) : CommandPort :=
  match c.fetching with
  | none => c
  | some f =>
    { c with
      state := c.state.afterFetch f n
      fetching := none
      shifted := (if p = .host then [0xFF#8] else []) ++ shiftedOut f.bytes n }

/-! ### Transactions -/

/-- Whether the I2C target acknowledges an address: its own and no other (R164). -/
def State.i2cAcknowledges (s : State) (address : BitVec 7) : Bool := address == s.i2cAddress

/-- A write transaction on the SPI lines: nothing without a byte, a whole fetch where the first byte
is 00h, else a frame, during which FFh is shifted out (R163, R200). -/
def State.spiWrite (s : State) : List Byte → State
  | [] => s
  | b :: bs =>
    if b = 0x00#8 then s.modCmd .host fun c => c.beginFetch.endFetch .host bs.length
    else
      s.modCmd .host fun c =>
        { c.arrive (b :: bs) with shifted := List.replicate (bs.length + 1) 0xFF#8 }

/-- The acknowledge bits of a write of `n` bytes: the target acknowledges its own address and, in every port
state, every byte that follows it; another address it leaves alone with all that follows (R164). -/
def State.writeAcks (s : State) (address : BitVec 7) (n : Nat) : List Bool :=
  List.replicate (n + 1) (s.i2cAcknowledges address)

/-- A write transaction on the I2C lines: a frame where the address is the target's and at least one
byte follows it, with the acknowledge bits of the target (R164). -/
def State.i2cWrite (s : State) (address : BitVec 7) (bytes : List Byte) : State :=
  let t := s.setAcks (s.writeAcks address bytes.length)
  if s.i2cAcknowledges address ∧ bytes ≠ [] then
    t.modCmd .service fun c => { c.arrive bytes with shifted := [] }
  else t

/-- A read transaction begins on the I2C lines: a fetch where the address is the target's, which it then
acknowledges (R164). -/
def State.i2cRead (s : State) (address : BitVec 7) : State :=
  let t := s.setAcks [s.i2cAcknowledges address]
  if s.i2cAcknowledges address then t.modCmd .service CommandPort.beginFetch else t

/-- COMMAND_FRAME (R163 to R167). -/
def execCommandFrame (bus : Bus) (bytes : List Byte) (s : State) : StepOutcome :=
  onEvent
    (fun s =>
      match bus with
      | .spi => s.spiWrite bytes
      | .i2c address => s.i2cWrite address bytes) s

/-- FETCH: a fetch begins on the bus (R163, R164, R168, R169). -/
def execFetch (bus : Bus) (s : State) : StepOutcome :=
  onEvent
    (fun s =>
      match bus with
      | .spi => s.modCmd .host CommandPort.beginFetch
      | .i2c address => s.i2cRead address) s

/-- FETCH_END (R168). -/
def execFetchEnd (p : CmdPort) (delivered : Nat) (s : State) : StepOutcome :=
  onEvent (fun s => s.modCmd p fun c => c.endFetch p delivered) s

end Sys2Proof.Machine
end

