-- ==== Sys2Proof/Machine/LinkEvents.lean ====
section
/-! DEFINITION. Messages of the converters on the sample links (R86, R90, R93, R96, R97, R204). -/

namespace Sys2Proof.Machine

/-- RESULT (R90, R93, R96). -/
def execResult (i : PortNo) (seq : Seq) (code : BitVec 16) (range : RangeFlag) (s : State) :
    StepOutcome :=
  onEvent (fun s => s.receive i (.result seq code range)) s

/-- CANCEL_ACK (R93, R96). -/
def execCancelAck (i : PortNo) (seq : Seq) (s : State) : StepOutcome :=
  onEvent (fun s => s.receive i (.cancelAck seq)) s

/-- PRESENT (R97, R96). -/
def execPresent (i : PortNo) (cls : Fin 16) (s : State) : StepOutcome :=
  onEvent (fun s => s.receive i (.present cls)) s

/-- DAMAGED_MESSAGE: a burst, taken for what its bytes are (R96, R204). -/
def execDamagedMessage (i : PortNo) (burst : List Byte) (s : State) : StepOutcome :=
  onEvent (fun s => s.receive i (decodeBurst burst)) s

end Sys2Proof.Machine
end

