-- ==== Sys2Proof/Machine/Pins.lean ====
section
/-! DEFINITION. Events on the system lines: a rising edge on PTRIG, the end of power-on, the edges of
RESET_N (R76, R164, R196). -/

namespace Sys2Proof.Machine

/-- PTRIG: a priority request where the trigger enable is on and the mode is ACTIVE, else ignored
(R76). -/
def execPtrig (s : State) : StepOutcome :=
  onEvent
    (fun s => if s.scan.trigger = true ∧ s.run.mode = .active then s.requestRun else s) s

/-- The I2C address of a sampled ADDR level (R164). -/
def sampledAddress (addrHigh : Bool) : BitVec 7 :=
  if addrHigh then Config.i2cAddressHigh else Config.i2cAddressLow

/-- The initial state of R196 with ADDR sampled; the steps that wait outside the part are kept. -/
def initialState (addrHigh : Bool) (waiting : List Instr) : State :=
  { State.reset with i2cAddress := sampledAddress addrHigh, pending := waiting }

/-- The part while power is coming up, with the content it takes at the end of power-on; no row begins it
(R196, log entry 13). -/
def State.comingUp : State := { State.reset with poweringUp := true }

/-- POWER_ON: the end of power-on. A RESET_N held low goes on holding the part in reset (R196). -/
def execPowerOn (addrHigh : Bool) (s : State) : StepOutcome :=
  .next { initialState addrHigh s.pending with inReset := s.inReset }

/-- RESET_N: at assertion the part goes into reset, which drives CYM low and releases ATTN_N; at
release every block takes its initial state. While power is coming up a release leaves the part held in reset
(R196). -/
def execResetN (edge : ResetEdge) (s : State) : StepOutcome :=
  match edge with
  | .fall => .next { s.modScan (fun c => { c with cym := false }) with inReset := true }
  | .rise addrHigh => .next { initialState addrHigh s.pending with poweringUp := s.poweringUp }

end Sys2Proof.Machine
end

