-- ==== Sys2Proof/Machine/PortCommands.lean ====
section
/-! DEFINITION. The port group: PORT_CONFIG, PORT_RESTORE and PORT_STATUS. -/

namespace Sys2Proof.Machine

/-- A sample port after an accepted PORT_CONFIG in mode `m`: T and the enable are written, and the
port acts as the table of R100 gives. -/
def SamplePort.configured (x : SamplePort) (m : Mode) (on : Bool) (timeout : Nat) : SamplePort :=
  let y := { x with enable := on, timeout := timeout }
  if on then
    if x.enable = false ∧ m = .active ∧ x.phase = .offline then y.enterProbing else y
  else y.orderOffline

/-- PORT_CONFIG's own rule (R100). -/
def portConfigRule (ps : List Byte) (s : State) : Answer × State :=
  match portOf (byteAt ps 0), flagOf (byteAt ps 1) with
  | some i, some on =>
    if numAt ps 2 = 0 then refuse .badParam s
    else if on = false ∧ (s.port i).phase.draining = true then refuse .busy s
    else
      let t := (s.modPort i fun x => x.configured s.run.mode on (numAt ps 2)).settle
      accept [phaseCode (t.port i).phase] t
  | _, _ => refuse .badParam s

/-- PORT_CONFIG (R100). -/
def execPortConfig (p : CmdPort) (ps : List Byte) (s : State) : StepOutcome :=
  runCommand .portConfig p ps (portConfigRule ps) s

/-- Whether PORT_RESTORE may probe a port: enabled, and OFFLINE or FAULTED (R101). -/
def SamplePort.restorable (x : SamplePort) : Bool :=
  x.enable && (x.phase == .offline || x.phase == .faulted)

/-- PORT_RESTORE's own rule (R101). -/
def portRestoreRule (ps : List Byte) (s : State) : Answer × State :=
  match portOf (byteAt ps 0) with
  | none => refuse .badParam s
  | some i =>
    if (s.port i).restorable then accept [] ((s.modPort i SamplePort.enterProbing).settle)
    else refuse .badState s

/-- PORT_RESTORE (R101). -/
def execPortRestore (p : CmdPort) (ps : List Byte) (s : State) : StepOutcome :=
  runCommand .portRestore p ps (portRestoreRule ps) s

/-- The record fields of PORT_STATUS; 00h where no record is outstanding (R103, R203). -/
def recordData : Option ConvRecord → List Byte
  | some r =>
    [flagByte true] ++ pointBytes r.point
      ++ [r.seq.zeroExtend 8, originCode r.origin, flagByte r.superseded, flagByte r.cancelled]
  | none => [flagByte false] ++ List.replicate 6 0x00#8

/-- The data of PORT_STATUS (R103, R203). -/
def portStatusData (x : SamplePort) : List Byte :=
  [phaseCode x.phase, flagByte x.enable, byteOf x.timeout, byteOf x.timeoutCount,
      byteOf x.strayCount, converterClassCode x.cls, flagByte x.absent]
    ++ recordData x.phase.record ++ [x.seqCounter.zeroExtend 8]

/-- PORT_STATUS's own rule (R103). -/
def portStatusRule (ps : List Byte) (s : State) : Answer × State :=
  match portOf (byteAt ps 0), flagOf (byteAt ps 1) with
  | some i, some clear =>
    accept (portStatusData (s.port i))
      (if clear then s.modPort i fun x => { x with strayCount := 0 } else s)
  | _, _ => refuse .badParam s

/-- PORT_STATUS (R103). -/
def execPortStatus (p : CmdPort) (ps : List Byte) (s : State) : StepOutcome :=
  runCommand .portStatus p ps (portStatusRule ps) s

end Sys2Proof.Machine
end

