-- ==== Sys2Proof/Machine/ScanCommands.lean ====
section
/-! DEFINITION. The scan group: SCAN_START, SCAN_STOP, SCAN_HALT, SKIP_PASS, RUN_PRIORITY, ABORT_POINT,
SCAN_CONFIG and SCAN_STATUS. -/

namespace Sys2Proof.Machine

/-- The period timer starting an interval: `period` units of 100 µs (R53, R70). -/
def Scan.startInterval (c : Scan) : Scan :=
  { c with periodTimer := some (c.period * Config.periodUnit) }

/-- An accepted SCAN_START before its pass starts: the scan mode, and with CYCLIC the period timer
(R63). -/
def Scan.begin (c : Scan) (m : ScanMode) : Scan :=
  match m with
  | .oneShot => { c with scanMode := .oneShot }
  | .cyclic => { c with scanMode := .cyclic }.startInterval

/-- SCAN_START's own rule (R63). -/
def scanStartRule (ps : List Byte) (s : State) : Answer × State :=
  match scanModeOf (byteAt ps 0) with
  | none => refuse .badParam s
  | some m =>
    if s.scan.scanner = .idle then
      accept (bytes16 s.scan.passCounter) ((s.modScan fun c => (c.begin m).startPass).settle)
    else refuse .busy s

/-- SCAN_START (R63). -/
def execScanStart (p : CmdPort) (ps : List Byte) (s : State) : StepOutcome :=
  runCommand .scanStart p ps (scanStartRule ps) s

/-- SCAN_STOP on the scan engine (R72). -/
def State.stopScan (s : State) : State :=
  match s.scan.scanner with
  | .pass => s.modScan fun c => { c with stopRequested := true }
  | .gap => (s.promote.modScan Scan.goIdle).settle
  | .idle => s

/-- SCAN_STOP's own rule (R72). -/
def scanStopRule (s : State) : Answer × State :=
  accept [scannerCode s.stopScan.scan.scanner] s.stopScan

/-- SCAN_STOP (R72). -/
def execScanStop (p : CmdPort) (ps : List Byte) (s : State) : StepOutcome :=
  runCommand .scanStop p ps scanStopRule s

/-- SCAN_HALT (R74). -/
def execScanHalt (p : CmdPort) (ps : List Byte) (s : State) : StepOutcome :=
  runCommand .scanHalt p ps (fun s => accept [] s.halt) s

/-- SKIP_PASS's own rule (R73). -/
def skipPassRule (s : State) : Answer × State :=
  if s.scan.scanner = .pass then
    accept (num16 (s.scan.active.countP Entry.isOpen)) (s.withdraw .routine).settle
  else refuse .badState s

/-- SKIP_PASS (R73). -/
def execSkipPass (p : CmdPort) (ps : List Byte) (s : State) : StepOutcome :=
  runCommand .skipPass p ps skipPassRule s

/-- The result of a priority request: STARTED, RERUN or LOST (R77, R78, R202). -/
def requestCode (c : Scan) : Byte :=
  if c.prioActive then if c.rerun then 0x02#8 else 0x01#8 else 0x00#8

/-- RUN_PRIORITY (R76). -/
def execRunPriority (p : CmdPort) (ps : List Byte) (s : State) : StepOutcome :=
  runCommand .runPriority p ps (fun s => accept [requestCode s.scan] s.requestRun) s

/-- The conversion ABORT_POINT can withdraw: the port named by the in-flight mark and its record, where
the port is BUSY and the entry of the conversion is IN_FLIGHT (R75). -/
def State.abortable (s : State) (n : PointNo) : Option (PortNo × ConvRecord) :=
  match (s.pt n).inFlight with
  | none => none
  | some i =>
    match (s.port i).phase with
    | .busy r _ =>
      if (s.scan.entries r.origin).any fun e => e.point = n ∧ e.outcome = .inFlight then some (i, r)
      else none
    | .offline | .probing _ | .idle | .cancelling _ _ | .faulted => none

/-- ABORT_POINT's own rule (R75). -/
def abortPointRule (ps : List Byte) : State → Answer × State :=
  withPoint ps 0 fun n s =>
    match s.abortable n with
    | none => refuse .badState s
    | some (i, r) =>
      accept [originCode r.origin, byteOf i.val]
        (((s.handOver r.origin n .cancelled).modPort i SamplePort.cancelRequest).settle)

/-- ABORT_POINT (R75). -/
def execAbortPoint (p : CmdPort) (ps : List Byte) (s : State) : StepOutcome :=
  runCommand .abortPoint p ps (abortPointRule ps) s

/-- SCAN_CONFIG's own rule (R80). -/
def scanConfigRule (ps : List Byte) (s : State) : Answer × State :=
  match flagOf (byteAt ps 2) with
  | none => refuse .badParam s
  | some on =>
    if numAt16 ps 0 = 0 then refuse .badParam s
    else accept [] (s.modScan fun c => { c with period := numAt16 ps 0, trigger := on })

/-- SCAN_CONFIG (R80). -/
def execScanConfig (p : CmdPort) (ps : List Byte) (s : State) : StepOutcome :=
  runCommand .scanConfig p ps (scanConfigRule ps) s

/-- The number of entries at an outcome. -/
def countOutcome (es : List Entry) (o : EntryOutcome) : Nat := es.countP fun e => e.outcome == o

/-- The length of the staged routine list as SCAN_STATUS carries it. DESIGN CHOICE, unsafe (log entry 11): R81,
R202 and R203 give no length where no staged routine list exists; the model sends 0, in 2 bytes. -/
def stagedLength : Option (List PointNo) → Nat
  | some ns => ns.length
  | none => 0

/-- The data of SCAN_STATUS, in the order of R81, with the widths of R203: at most four conversions are
outstanding at once (R65), so an IN_FLIGHT count takes 1 byte. What stands for the length of an absent staged
list is the model's choice (`stagedLength`, log entry 11). -/
def scanStatusData (c : Scan) (a : Attention) : List Byte :=
  [scannerCode c.scanner, scanModeCode c.scanMode, flagByte c.stopRequested, flagByte c.late,
      flagByte a.overrun, flagByte c.periodTimer.isSome]
    ++ num16 c.period ++ [flagByte c.trigger] ++ bytes16 c.passCounter
    ++ num16 c.active.length ++ num16 (cursorPosition c.active Config.routineCapacity)
    ++ num16 (countOutcome c.active .pending) ++ [byteOf (countOutcome c.active .inFlight)]
    ++ [flagByte c.staged.isSome] ++ num16 (stagedLength c.staged)
    ++ [flagByte c.prioActive, flagByte c.rerun, flagByte a.prioDone, flagByte a.prioLost,
      byteOf c.prio.length, byteOf (cursorPosition c.prio Config.priorityCapacity),
      byteOf (countOutcome c.prio .pending), byteOf (countOutcome c.prio .inFlight), flagByte c.cym]

/-- SCAN_STATUS (R81). -/
def execScanStatus (p : CmdPort) (ps : List Byte) (s : State) : StepOutcome :=
  runCommand .scanStatus p ps (fun s => accept (scanStatusData s.scan s.attn) s) s

end Sys2Proof.Machine
end

