-- ==== Sys2Proof/Machine/TableCommands.lean ====
section
/-! DEFINITION. The table group: DEFINE, FIND, READ_PROFILE, READ_VALUE, EDIT, ACTIVATE, PARK, UNPARK,
RETIRE and READ_CHANGED. -/

namespace Sys2Proof.Machine

/-! ### DEFINE and FIND -/

/-- The record an accepted DEFINE initialises, before it is linked (R13). -/
def definedRecord (old : Point) (t : Tag) : Point :=
  { Point.initial with state := .draft, tag := t, revision := old.revision + 1#16 }

/-- DEFINE's own rule (R12, R13, R26). -/
def defineRule (ps : List Byte) (s : State) : Answer × State :=
  let t := wordAt32 ps 0
  if t = 0#32 then refuse .badParam s
  else if (s.lookup t).isSome then refuse .tagInUse s
  else
    match s.points.first fun x => x.state == .free with
    | none => refuse .tableFull s
    | some n =>
      accept (pointBytes n ++ bytes16 ((s.pt n).revision + 1#16))
        ((s.setPt n (definedRecord (s.pt n) t)).link n t)

/-- DEFINE (R12). -/
def execDefine (p : CmdPort) (ps : List Byte) (s : State) : StepOutcome :=
  runCommand .define p ps (defineRule ps) s

/-- FIND's own rule (R31). -/
def findRule (ps : List Byte) (s : State) : Answer × State :=
  match s.lookup (wordAt32 ps 0) with
  | none => refuse .noTag s
  | some n =>
    accept (pointBytes n ++ [pointStateCode (s.pt n).state] ++ bytes16 (s.pt n).revision) s

/-- FIND (R31). -/
def execFind (p : CmdPort) (ps : List Byte) (s : State) : StepOutcome :=
  runCommand .find p ps (findRule ps) s

/-! ### Reading a point -/

/-- The data of READ_PROFILE with a choice (R20, R203). -/
def profileData (n : PointNo) (x : Point) (staged : Bool) : List Byte :=
  let chosen := if staged then x.staged.getD x.active else x.active
  pointBytes n ++ [pointStateCode x.state] ++ bytes16 x.revision
    ++ [flagByte x.staged.isSome, choiceCode (staged && x.staged.isSome)] ++ profileBytes chosen

/-- READ_PROFILE's own rule (R20). -/
def readProfileRule (ps : List Byte) : State → Answer × State :=
  withPoint ps 0 fun n s =>
    match flagOf (byteAt ps 5) with
    | none => refuse .badParam s
    | some staged => accept (profileData n (s.pt n) staged) s

/-- READ_PROFILE (R20). -/
def execReadProfile (p : CmdPort) (ps : List Byte) (s : State) : StepOutcome :=
  runCommand .readProfile p ps (readProfileRule ps) s

/-- The data of READ_VALUE (R21, R203). -/
def valueData (x : Point) : List Byte :=
  [pointStateCode x.state] ++ bytes16 x.revision ++ engBytes x.value ++ bytes16 x.raw
    ++ [qualityCode x.quality, byteOf x.age, levelCode x.level, levelCode x.peak]

/-- READ_VALUE's own rule (R21). -/
def readValueRule (ps : List Byte) : State → Answer × State :=
  withPoint ps 0 fun n s => accept (valueData (s.pt n)) s

/-- READ_VALUE (R21). -/
def execReadValue (p : CmdPort) (ps : List Byte) (s : State) : StepOutcome :=
  runCommand .readValue p ps (readValueRule ps) s

/-! ### EDIT -/

/-- The revision of point `n` increments, wrapping (R2). -/
def State.bumpRevision (s : State) (n : PointNo) : State :=
  s.modPt n fun x => { x with revision := x.revision + 1#16 }

/-- Whether an EDIT of point `n` is staged: LIVE or PARKED, with the scanner in PASS or GAP (R38). -/
def State.editIsStaged (s : State) (n : PointNo) : Bool :=
  (s.pt n).state != .draft && s.scan.scanner != .idle

/-- A group written into the staged profile, created as a copy of the active one if absent (R40). -/
def State.writeStaged (s : State) (n : PointNo) (g : Group) : State :=
  s.modPt n fun x => { x with staged := some ((x.staged.getD x.active).write g) }

/-- An accepted EDIT (R36, R38 to R40). -/
def State.acceptEdit (s : State) (n : PointNo) (g : Group) : Answer × State :=
  let rev := bytes16 ((s.pt n).revision + 1#16)
  if s.editIsStaged n then
    accept (rev ++ [choiceCode true]) ((s.writeStaged n g).bumpRevision n)
  else
    accept (rev ++ [choiceCode false])
      (((s.writeActive n ((s.pt n).active.write g)).bumpRevision n).settle)

/-- EDIT's own rule: hold, revision, group and order checks, then the write (R36, R37). -/
def editRule (p : CmdPort) (ps : List Byte) : State → Answer × State :=
  withPoint ps 0 fun n =>
    unlessHeld p n fun s =>
      if wordAt16 ps 5 ≠ (s.pt n).revision then (⟨.revision, bytes16 (s.pt n).revision⟩, s)
      else
        match groupOf (byteAt ps 7) (ps.drop 8) with
        | none => refuse .badParam s
        | some g => if g.inOrder then s.acceptEdit n g else refuse .badBand s

/-- EDIT (R36). -/
def execEdit (p : CmdPort) (ps : List Byte) (s : State) : StepOutcome :=
  runCommand .edit p ps (editRule p ps) s

/-! ### ACTIVATE, PARK and UNPARK -/

/-- A lifecycle command on a point in state `before`: hold check, state check, change, revision, and
the scan engine's examination (R11, R65). -/
def lifecycleRule (p : CmdPort) (ps : List Byte) (before : PointState) (change : Point → Point) :
    State → Answer × State :=
  withPoint ps 0 fun n =>
    unlessHeld p n fun s =>
      if (s.pt n).state = before then
        accept (bytes16 ((s.pt n).revision + 1#16)) (((s.modPt n change).bumpRevision n).settle)
      else refuse .badState s

/-- DRAFT to LIVE (R14). -/
def activated (x : Point) : Point := { x with state := .live }

/-- LIVE to PARKED, quality STALE (R15). -/
def parkedPoint (x : Point) : Point := { x with state := .parked, quality := .stale }

/-- PARKED to LIVE, age, candidate and confirm counter cleared (R16). -/
def unparkedPoint (x : Point) : Point :=
  { x with state := .live, age := 0, candidate := none, confirmCounter := 0 }

/-- ACTIVATE (R14). -/
def execActivate (p : CmdPort) (ps : List Byte) (s : State) : StepOutcome :=
  runCommand .activate p ps (lifecycleRule p ps .draft activated) s

/-- PARK (R15). -/
def execPark (p : CmdPort) (ps : List Byte) (s : State) : StepOutcome :=
  runCommand .park p ps (lifecycleRule p ps .live parkedPoint) s

/-- UNPARK (R16). -/
def execUnpark (p : CmdPort) (ps : List Byte) (s : State) : StepOutcome :=
  runCommand .unpark p ps (lifecycleRule p ps .parked unparkedPoint) s

/-! ### RETIRE -/

/-- The record of a retired point: revision, resulting state by the in-flight mark, staged profile
and unlisted mark gone (R17, R18). -/
def retiredRecord (x : Point) : Point :=
  { x with
    revision := x.revision + 1#16
    state := if x.inFlight = none then .free else .retiring
    staged := none
    unlisted := false }

/-- The scan lists without the entries of a point (R62). -/
def Scan.without (c : Scan) (n : PointNo) : Scan :=
  { c with
    active := c.active.filter fun e => e.point ≠ n
    staged := c.staged.map fun ns => ns.filter fun m => m ≠ n
    prio := c.prio.filter fun e => e.point ≠ n }

/-- An accepted RETIRE with its clean-up; the ends that the list removals cause, and the examinations
that follow, come last (R17, R18, R62). -/
def State.retirePoint (s : State) (n : PointNo) : State :=
  let t := ((s.unlink n).modPt n retiredRecord).modScan fun c => c.without n
  let u := (t.retireEntry n).setHolds (holdsWithout t.holds n)
  (((u.forgetExpired .host n).forgetExpired .service n).unmark n).settle

/-- RETIRE's own rule (R11, R17). -/
def retireRule (p : CmdPort) (ps : List Byte) : State → Answer × State :=
  withPoint ps 0 fun n =>
    unlessHeld p n fun s =>
      let x := retiredRecord (s.pt n)
      accept (bytes16 x.revision ++ [pointStateCode x.state]) (s.retirePoint n)

/-- RETIRE (R17). -/
def execRetire (p : CmdPort) (ps : List Byte) (s : State) : StepOutcome :=
  runCommand .retire p ps (retireRule p ps) s

/-! ### READ_CHANGED -/

/-- The members of a change set in the order of R157: above the cursor first, then up to it. -/
def ChangeSet.inReadOrder (c : ChangeSet) : List PointNo :=
  let ms := c.members.indices fun b => b
  (ms.filter fun n => c.cursor < n) ++ (ms.filter fun n => n ≤ c.cursor)

/-- The change set after a read that returned those points (R158). -/
def ChangeSet.afterRead (c : ChangeSet) (ns : List PointNo) : ChangeSet where
  members := ns.foldl (fun ms n => ms.set n false) c.members
  cursor := ns.getLast?.getD c.cursor

/-- The data of one returned point (R158, R203). -/
def changedData (n : PointNo) (x : Point) : List Byte :=
  pointBytes n ++ bytes32 x.tag ++ engBytes x.value ++ [qualityCode x.quality, levelCode x.level]

/-- READ_CHANGED's own rule (R157, R158). -/
def readChangedRule (p : CmdPort) (ps : List Byte) (s : State) : Answer × State :=
  let most := numAt ps 0
  if most = 0 ∨ 8 < most then refuse .badParam s
  else
    let ns := (s.changed.get p).inReadOrder.take most
    let after := (s.changed.get p).afterRead ns
    accept
      ([byteOf ns.length] ++ num16 (after.members.count fun b => b)
        ++ ns.flatMap fun n => changedData n (s.pt n))
      (s.setChanged (s.changed.set p after))

/-- READ_CHANGED (R157). -/
def execReadChanged (p : CmdPort) (ps : List Byte) (s : State) : StepOutcome :=
  runCommand .readChanged p ps (readChangedRule p ps) s

end Sys2Proof.Machine
end

