-- ==== Sys2Proof/Machine/Timers.lean ====
section
/-! DEFINITION. The timers: what each expiry does, and the running of the time base while no step waits.
A timer expires at the moment its time has wholly run out: with ticks left, as after an event that was taken
first and stopped or restarted it (R70, R99, R153), and where it does not run, its expiry changes nothing (log
entries 2 and 5). -/

namespace Sys2Proof.Machine

/-! ### Expiries -/

/-- TIMEOUT: the conversion timer runs out in BUSY (R91). With ticks left it does not expire, as after a RESULT
that was taken first and a new dispatch (R99). -/
def execTimeout (i : PortNo) (s : State) : StepOutcome :=
  onEvent
    (fun s =>
      match (s.port i).phase with
      | .busy r left => if left = 0 then s.takeTimeout i r else s
      | .offline | .probing _ | .idle | .cancelling _ _ | .faulted => s) s

/-- CANCEL_TIMER_EXPIRY: the conversion timer runs out in CANCELLING (R94, R99). -/
def execCancelTimerExpiry (i : PortNo) (s : State) : StepOutcome :=
  onEvent
    (fun s =>
      match (s.port i).phase with
      | .cancelling r left => if left = 0 then s.takeCancelExpiry i r else s
      | .offline | .probing _ | .idle | .busy _ _ | .faulted => s) s

/-- A probe unanswered: OFFLINE, absent, no class; the enable is left on (R98). -/
def SamplePort.foundAbsent (x : SamplePort) : SamplePort :=
  { x with phase := .offline, cls := none, absent := true }

/-- A probe ends unanswered (R98, R189). -/
def State.endProbe (s : State) (i : PortNo) : State :=
  ((s.modPort i SamplePort.foundAbsent).probeEnded).settle

/-- PROBE_TIMER_EXPIRY: the probe timer runs out in PROBING (R98, R99). -/
def execProbeTimerExpiry (i : PortNo) (s : State) : StepOutcome :=
  onEvent
    (fun s =>
      match (s.port i).phase with
      | .probing left => if left = 0 then s.endProbe i else s
      | .offline | .idle | .busy _ _ | .cancelling _ _ | .faulted => s) s

/-- The next interval of the period timer begins at a tick, with the period as it then stands (R70). -/
def Scan.nextInterval (c : Scan) : Scan :=
  { c with periodTimer := some (c.period * Config.periodUnit) }

/-- A period tick: in GAP a pass starts; in PASS the overrun flag and the late mark are set (R70,
R71). -/
def State.takeTick (s : State) : State :=
  let t := s.modScan Scan.nextInterval
  match s.scan.scanner with
  | .gap => (t.modScan Scan.startPass).settle
  | .pass => (t.modScan fun c => { c with late := true }).modAttn fun a => { a with overrun := true }
  | .idle => t

/-- PERIOD_TICK: an interval of the period timer has run out (R70, R71). -/
def execPeriodTick (s : State) : StepOutcome :=
  onEvent (fun s => if s.scan.periodTimer = some 0 then s.takeTick else s) s

/-- The expiry of a hold: its record goes, HOLD_EXPIRED is set, and the last-expired-hold record of its
port names the point (R149). -/
def State.expireHold (s : State) (h : HoldRecord) : State :=
  ((s.setHolds (holdsWithout s.holds h.point)).modAttn fun a => { a with holdExpired := true }).modCmd
    h.port fun c => { c with lastExpired := some h.point }

/-- HOLD_EXPIRY (R149): a hold expires at the moment its remaining time has wholly run out (R146). With time
left, as after a renewal that was taken first, there is no expiry (R153). -/
def execHoldExpiry (n : PointNo) (s : State) : StepOutcome :=
  onEvent
    (fun s =>
      match s.holdOn n with
      | some h => if h.left = 0 then s.expireHold h else s
      | none => s) s

/-- The wake guard stops and nothing else changes (R190). -/
def State.endGuard (s : State) : State := s.setRun { s.run with wakeGuard := none }

/-- WAKE_GUARD_EXPIRY: the wake guard has run out (R190). -/
def execWakeGuardExpiry (s : State) : StepOutcome :=
  onEvent (fun s => if s.run.wakeGuard = some 0 then s.endGuard else s) s

/-! ### The time base (log entries 3 and 4) -/

/-- A port with one tick less on its timer. -/
def SamplePort.elapse (x : SamplePort) : SamplePort :=
  { x with
    phase :=
      match x.phase with
      | .probing left => .probing (left - 1)
      | .busy r left => .busy r (left - 1)
      | .cancelling r left => .cancelling r (left - 1)
      | ph => ph }

/-- The expiry due at a port whose timer has run out. -/
def dueAtPort (i : PortNo) (x : SamplePort) : List Instr :=
  match x.phase with
  | .probing 0 => [.probeTimerExpiry i]
  | .busy _ 0 => [.timeout i]
  | .cancelling _ 0 => [.cancelTimerExpiry i]
  | _ => []

/-- A hold with one tick less. -/
def HoldRecord.elapse (h : HoldRecord) : HoldRecord := { h with left := h.left - 1 }

/-- One tick of 10 µs on every running timer. -/
def State.elapse (s : State) : State :=
  { s with
    ports := s.ports.map SamplePort.elapse
    scan := { s.scan with periodTimer := s.scan.periodTimer.map fun t => t - 1 }
    run := { s.run with wakeGuard := s.run.wakeGuard.map fun t => t - 1 }
    holds := s.holds.map HoldRecord.elapse }

/-- The expiries of the timers that have run out: ports 0 to 3, period, wake guard, holds. -/
def State.dueExpiries (s : State) : List Instr :=
  (List.finRange 4).flatMap (fun i => dueAtPort i (s.port i))
    ++ (if s.scan.periodTimer = some 0 then [.periodTick] else [])
    ++ (if s.run.wakeGuard = some 0 then [.wakeGuardExpiry] else [])
    ++ (s.holds.filter fun h => h.left = 0).map fun h => .holdExpiry h.point

/-- What happens while no step waits: one tick passes, and the expiries it brings wait in the queue.
DESIGN CHOICE, safe (log entry 3). -/
def State.idle (s : State) : State :=
  if s.heldInReset then s else { s.elapse with pending := s.elapse.dueExpiries }

end Sys2Proof.Machine
end

