-- ==== Sys2Proof/Machine/Dispatch.lean ====
section
/-! DEFINITION. One arm per step of the part, each a direct call of its meaning. -/

namespace Sys2Proof.Machine

/-- The effect of a step on everything but the queue of waiting steps. -/
def exec (i : Instr) (s : State) : Host.Outcome State Fault Refusal :=
  match i with
  | .define port params => Sys2Proof.Machine.execDefine port params s
  | .find port params => Sys2Proof.Machine.execFind port params s
  | .readProfile port params => Sys2Proof.Machine.execReadProfile port params s
  | .readValue port params => Sys2Proof.Machine.execReadValue port params s
  | .edit port params => Sys2Proof.Machine.execEdit port params s
  | .activate port params => Sys2Proof.Machine.execActivate port params s
  | .park port params => Sys2Proof.Machine.execPark port params s
  | .unpark port params => Sys2Proof.Machine.execUnpark port params s
  | .retire port params => Sys2Proof.Machine.execRetire port params s
  | .readChanged port params => Sys2Proof.Machine.execReadChanged port params s
  | .hold port params => Sys2Proof.Machine.execHold port params s
  | .release port params => Sys2Proof.Machine.execRelease port params s
  | .rlistInsert port params => Sys2Proof.Machine.execRlistInsert port params s
  | .rlistRemove port params => Sys2Proof.Machine.execRlistRemove port params s
  | .rlistClear port params => Sys2Proof.Machine.execRlistClear port params s
  | .rlistRead port params => Sys2Proof.Machine.execRlistRead port params s
  | .plistSet port params => Sys2Proof.Machine.execPlistSet port params s
  | .plistRead port params => Sys2Proof.Machine.execPlistRead port params s
  | .scanStart port params => Sys2Proof.Machine.execScanStart port params s
  | .scanStop port params => Sys2Proof.Machine.execScanStop port params s
  | .scanHalt port params => Sys2Proof.Machine.execScanHalt port params s
  | .skipPass port params => Sys2Proof.Machine.execSkipPass port params s
  | .runPriority port params => Sys2Proof.Machine.execRunPriority port params s
  | .abortPoint port params => Sys2Proof.Machine.execAbortPoint port params s
  | .scanConfig port params => Sys2Proof.Machine.execScanConfig port params s
  | .scanStatus port params => Sys2Proof.Machine.execScanStatus port params s
  | .condRead port params => Sys2Proof.Machine.execCondRead port params s
  | .ack port params => Sys2Proof.Machine.execAck port params s
  | .ackUpto port params => Sys2Proof.Machine.execAckUpto port params s
  | .condClear port params => Sys2Proof.Machine.execCondClear port params s
  | .portConfig port params => Sys2Proof.Machine.execPortConfig port params s
  | .portRestore port params => Sys2Proof.Machine.execPortRestore port params s
  | .portStatus port params => Sys2Proof.Machine.execPortStatus port params s
  | .status port params => Sys2Proof.Machine.execStatus port params s
  | .clearFlags port params => Sys2Proof.Machine.execClearFlags port params s
  | .attnMask port params => Sys2Proof.Machine.execAttnMask port params s
  | .identify port params => Sys2Proof.Machine.execIdentify port params s
  | .enterQuiet port params => Sys2Proof.Machine.execEnterQuiet port params s
  | .exitQuiet port params => Sys2Proof.Machine.execExitQuiet port params s
  | .softReset port params => Sys2Proof.Machine.execSoftReset port params s
  | .unknownOpcode port opcode params => Sys2Proof.Machine.execUnknownOpcode port opcode params s
  | .commandFrame bus bytes => Sys2Proof.Machine.execCommandFrame bus bytes s
  | .fetch bus => Sys2Proof.Machine.execFetch bus s
  | .fetchEnd port delivered => Sys2Proof.Machine.execFetchEnd port delivered s
  | .result port seq code range => Sys2Proof.Machine.execResult port seq code range s
  | .cancelAck port seq => Sys2Proof.Machine.execCancelAck port seq s
  | .present port cls => Sys2Proof.Machine.execPresent port cls s
  | .damagedMessage port burst => Sys2Proof.Machine.execDamagedMessage port burst s
  | .timeout port => Sys2Proof.Machine.execTimeout port s
  | .cancelTimerExpiry port => Sys2Proof.Machine.execCancelTimerExpiry port s
  | .probeTimerExpiry port => Sys2Proof.Machine.execProbeTimerExpiry port s
  | .periodTick => Sys2Proof.Machine.execPeriodTick s
  | .holdExpiry point => Sys2Proof.Machine.execHoldExpiry point s
  | .wakeGuardExpiry => Sys2Proof.Machine.execWakeGuardExpiry s
  | .ptrig => Sys2Proof.Machine.execPtrig s
  | .powerOn addrHigh => Sys2Proof.Machine.execPowerOn addrHigh s
  | .resetN edge => Sys2Proof.Machine.execResetN edge s

end Sys2Proof.Machine
end

