-- ==== Sys2Proof/Machine/Step.lean ====
section
/-! DEFINITION. One step of the part: the step that waits at the front of the queue, or one tick of the
time base where none waits. -/

namespace Sys2Proof.Machine

/-- Take the step at the front of the queue and run it over the queue's rest; on an empty queue let
one tick of the time base pass (log entry 3). -/
def step (s : State) : Host.Outcome State Fault Refusal :=
  match s.pending with
  | [] => .next s.idle
  | c :: rest => exec c { s with pending := rest }

/-- The state with the step a table word spells put at the front of the queue; unchanged where the word
spells none, as no word does (log entry 12). -/
def State.withFetchWord (s : State) (nbits w : Nat) : State :=
  match decodeTableWord nbits w with
  | some c => { s with pending := c :: s.pending }
  | none => s

end Sys2Proof.Machine
end

