-- ==== Sys2Proof/Safety.lean ====
section
/-! DEFINITION. The laws the manual states of the whole part, block by block, as predicates on a state.
The claims say which hold after reset and which every step keeps. -/

namespace Sys2Proof.Machine

/-! ### Commands as the executor takes them (R171, R172, R187) -/

/-- The row of the table that executes command `c` taken from port `p` with parameters `ps`. -/
def rowOf (c : Cmd) (p : CmdPort) (ps : List Byte) : Instr :=
  match c with
  | .define => .define p ps
  | .find => .find p ps
  | .readProfile => .readProfile p ps
  | .readValue => .readValue p ps
  | .edit => .edit p ps
  | .activate => .activate p ps
  | .park => .park p ps
  | .unpark => .unpark p ps
  | .retire => .retire p ps
  | .readChanged => .readChanged p ps
  | .hold => .hold p ps
  | .release => .release p ps
  | .rlistInsert => .rlistInsert p ps
  | .rlistRemove => .rlistRemove p ps
  | .rlistClear => .rlistClear p ps
  | .rlistRead => .rlistRead p ps
  | .plistSet => .plistSet p ps
  | .plistRead => .plistRead p ps
  | .scanStart => .scanStart p ps
  | .scanStop => .scanStop p ps
  | .scanHalt => .scanHalt p ps
  | .skipPass => .skipPass p ps
  | .runPriority => .runPriority p ps
  | .abortPoint => .abortPoint p ps
  | .scanConfig => .scanConfig p ps
  | .scanStatus => .scanStatus p ps
  | .condRead => .condRead p ps
  | .ack => .ack p ps
  | .ackUpto => .ackUpto p ps
  | .condClear => .condClear p ps
  | .portConfig => .portConfig p ps
  | .portRestore => .portRestore p ps
  | .portStatus => .portStatus p ps
  | .status => .status p ps
  | .clearFlags => .clearFlags p ps
  | .attnMask => .attnMask p ps
  | .identify => .identify p ps
  | .enterQuiet => .enterQuiet p ps
  | .exitQuiet => .exitQuiet p ps
  | .softReset => .softReset p ps

/-- Command `c` with parameters `ps` waits at port `p` and is the one the executor takes (R171). -/
abbrev State.Takes (s : State) (c : Cmd) (p : CmdPort) (ps : List Byte) : Prop :=
  s.takes p (opcodeOf c) ps = true

/-- The mode is QUIET or ACTIVE, the two in which most commands are executed (R187). -/
abbrev State.Works (s : State) : Prop := s.run.mode = .quiet ∨ s.run.mode = .active

/-- The state with a command of port `p` answered: `p` is the port served last and is DONE with the
status, the port's overlap mark and the data (R171, R172, R174). -/
def State.answered (s : State) (p : CmdPort) (st : Status) (data : List Byte) : State :=
  (s.setServed p).modCmd p fun c => { c with state := .done ⟨st, c.overlap, data⟩ }

/-! ### Messages of the converters, as bytes (R204) -/

/-- The burst of an undamaged message of a converter. -/
def linkRxBytes : LinkRx → List Byte
  | .result seq code range =>
    closed
      ([0x81#8, seq.zeroExtend 8] ++ bytes16 code
        ++ [match range with
            | .inRange => 0x00#8
            | .over => 0x01#8
            | .under => 0x02#8])
  | .cancelAck seq => closed [0x82#8, seq.zeroExtend 8]
  | .present cls => closed [0x83#8, byteOf cls.val]
  | .damaged => []

/-! ### The initial state (R196) -/

/-- The table of R196, block by block, with the values of R1, R3, R6, R8, R23, R53 to R55, R84, R118,
R145, R155, R162, R171, R179, R180 and R186. -/
abbrev State.InitialTable (s : State) : Prop :=
  (∀ n, (s.pt n).state = .free ∧ (s.pt n).tag = 0#32 ∧ (s.pt n).revision = 0#16
      ∧ (s.pt n).next = none ∧ (s.pt n).active = Profile.default ∧ (s.pt n).staged = none
      ∧ (s.pt n).raw = 0#16 ∧ (s.pt n).value = 0 ∧ (s.pt n).quality = .unscanned ∧ (s.pt n).age = 0
      ∧ (s.pt n).seeded = false ∧ (s.pt n).inFlight = none ∧ (s.pt n).level = .normal
      ∧ (s.pt n).candidate = none ∧ (s.pt n).confirmCounter = 0 ∧ (s.pt n).peak = .normal
      ∧ (s.pt n).unlisted = false)
    ∧ s.pointsInUse = 0
    ∧ (∀ b, s.head b = none)
    ∧ s.scan.scanner = .idle ∧ s.scan.scanMode = .oneShot ∧ s.scan.stopRequested = false
    ∧ s.scan.late = false ∧ s.scan.period = 10000 ∧ s.scan.periodTimer = none
    ∧ s.scan.passCounter = 0#16 ∧ s.scan.active = [] ∧ s.scan.staged = none
    ∧ s.scan.prioActive = false ∧ s.scan.rerun = false ∧ s.scan.trigger = false ∧ s.scan.prio = []
    ∧ s.scan.cym = false
    ∧ (∀ i, (s.port i).phase = .offline ∧ (s.port i).enable = false ∧ (s.port i).timeout = 100
      ∧ (s.port i).seqCounter = 0#4 ∧ (s.port i).timeoutCount = 0 ∧ (s.port i).strayCount = 0
      ∧ (s.port i).cls = none ∧ (s.port i).absent = false)
    ∧ s.cond.list = [] ∧ s.cond.raiseSeq = 0#32 ∧ s.holds = []
    ∧ (∀ p, (∀ n, s.isChanged p n = false) ∧ (s.changed.get p).cursor = 0)
    ∧ (∀ p, (s.cmd p).state = .ready ∧ (s.cmd p).overlap = false ∧ (s.cmd p).lastExpired = none
      ∧ (s.cmd p).fetching = none)
    ∧ s.servedLast = .service
    ∧ s.attn.mask = 0x07#7 ∧ s.attn.overrun = false ∧ s.attn.prioDone = false
    ∧ s.attn.prioLost = false ∧ s.attn.holdExpired = false
    ∧ s.run.mode = .quiet ∧ s.run.wakeGuard = none

/-! ### Run control and the sample ports (R85, R186, R189, R190, R192) -/

/-- The mode table of chapter 10: outside ACTIVE nothing scans; in QUIET every port is OFFLINE; WAKING
lasts while a port is PROBING; in QUIESCING no port is BUSY and some port is CANCELLING. -/
abbrev State.ModeLaw (s : State) : Prop :=
  (s.run.mode ≠ .active → s.scan.scanner = .idle ∧ s.scan.prioActive = false)
    ∧ (s.run.mode = .quiet → ∀ i, (s.port i).phase = .offline)
    ∧ (s.run.mode = .waking →
        (∀ i, (s.port i).phase.draining = false ∧ (s.port i).phase ≠ .faulted)
          ∧ ∃ i, (s.port i).phase.isProbing = true)
    ∧ (s.run.mode = .quiescing →
        (∀ i, (s.port i).phase.draining = true → (s.port i).phase.isCancelling = true)
          ∧ ∃ i, (s.port i).phase.isCancelling = true)

/-- The wake-guard timer runs only while the mode is ACTIVE (R190). -/
abbrev State.GuardLaw (s : State) : Prop := s.run.wakeGuard ≠ none → s.run.mode = .active

/-- A port whose enable is off is OFFLINE (R85). -/
abbrev State.EnableLaw (s : State) : Prop := ∀ i, (s.port i).enable = false → (s.port i).phase = .offline

/-! ### The scan engine (R5, R49, R54 to R56, R69, R70) -/

/-- Whether no entry of a list is PENDING or IN_FLIGHT. -/
abbrev allClosed (es : List Entry) : Prop := ∀ e ∈ es, e.isOpen = false

/-- In IDLE nothing is staged, no mark of a pass stands and no routine entry is open; in GAP no routine
entry is open, the scan is CYCLIC and neither stop-requested nor the late mark is set (R5, R42, R56, R69). -/
abbrev State.ScannerLaw (s : State) : Prop :=
  (s.scan.scanner = .idle →
      s.scan.stopRequested = false ∧ s.scan.late = false ∧ s.scan.staged = none
        ∧ allClosed s.scan.active ∧ ∀ n, (s.pt n).staged = none)
    ∧ (s.scan.scanner = .gap →
        s.scan.scanMode = .cyclic ∧ s.scan.stopRequested = false ∧ s.scan.late = false
          ∧ allClosed s.scan.active)

/-- The period timer runs exactly while the scan mode is CYCLIC and the scanner is in PASS or GAP
(R70). -/
abbrev State.TimerLaw (s : State) : Prop :=
  s.scan.periodTimer.isSome = true ↔ s.scan.scanMode = .cyclic ∧ s.scan.scanner ≠ .idle

/-- While priority-active is clear no rerun is held and no priority entry is open (R54, R56, R79). -/
abbrev State.RunLaw (s : State) : Prop :=
  s.scan.prioActive = false → s.scan.rerun = false ∧ allClosed s.scan.prio

/-- A list of points within a capacity, none twice, each named (R49, R55). -/
abbrev State.listed (s : State) (capacity : Nat) (ns : List PointNo) : Prop :=
  ns.length ≤ capacity ∧ ns.Nodup ∧ ∀ n ∈ ns, (s.pt n).state.named = true

/-- The capacities and contents of the three lists (R49, R55). -/
abbrev State.ListLaw (s : State) : Prop :=
  s.listed Config.routineCapacity (s.scan.active.map Entry.point)
    ∧ s.listed Config.routineCapacity (s.scan.staged.getD [])
    ∧ s.listed Config.priorityCapacity (s.scan.prio.map Entry.point)

/-- The scan engine has nothing left to do: no entry at a cursor in force can be resolved or dispatched,
no pass-end and no run end is due (R65, R67, R68, R79). -/
abbrev State.Settled (s : State) : Prop := s.engineMove.isNone = true

/-! ### Outstanding records (R7, R9, R87, R92) -/

/-- The point of the outstanding record of port `i`. -/
def State.recordPoint (s : State) (i : PortNo) : Option PointNo :=
  (s.port i).phase.record.map ConvRecord.point

/-- A point carries an in-flight mark exactly when the outstanding record of that port names it (R7);
only a LIVE, PARKED or RETIRING point carries one, and every RETIRING point does (R9, R17, R19). -/
abbrev State.RecordLaw (s : State) : Prop :=
  (∀ n i, (s.pt n).inFlight = some i ↔ s.recordPoint i = some n)
    ∧ (∀ n, (s.pt n).state = .free ∨ (s.pt n).state = .draft → (s.pt n).inFlight = none)
    ∧ (∀ n, (s.pt n).state = .retiring → (s.pt n).inFlight ≠ none)

/-- The point, origin and port state BUSY of a conversion in progress. -/
def Phase.converts (ph : Phase) (n : PointNo) (o : Origin) : Bool :=
  match ph with
  | .busy r _ => r.point == n && r.origin == o
  | .offline | .probing _ | .idle | .cancelling _ _ | .faulted => false

/-- An IN_FLIGHT entry names a point whose port is BUSY with its conversion, dispatched from that list
(R66, R92). -/
abbrev State.FlightLaw (s : State) : Prop :=
  ∀ o, ∀ e ∈ s.scan.entries o, e.outcome = .inFlight → ∃ i, (s.port i).phase.converts e.point o = true

/-! ### The condition unit (R119, R120, R128, R130, R131) -/

/-- A point that can have a condition: LIVE or PARKED (R120). -/
def PointState.conditioned : PointState → Bool
  | .live | .parked => true
  | .free | .draft | .retiring => false

/-- The condition list holds at most 64 entries, at most one per point, each for a point in LIVE or
PARKED whose level and peak it repeats, with a repeat count of at most 15 (R119, R120, R131). -/
abbrev State.ConditionListLaw (s : State) : Prop :=
  s.cond.list.length ≤ Config.conditionCapacity
    ∧ (s.cond.list.map CondEntry.point).Nodup
    ∧ ∀ e ∈ s.cond.list,
        (s.pt e.point).state.conditioned = true ∧ e.level = (s.pt e.point).level
          ∧ e.peak = (s.pt e.point).peak ∧ e.repeats ≤ 15

/-- A point carries an unlisted mark only while the list holds 64 entries, the point has no entry and
stands in LIVE or PARKED (R8, R120, R130). -/
abbrev State.MarkLaw (s : State) : Prop :=
  ∀ n, (s.pt n).unlisted = true →
    s.cond.list.length = Config.conditionCapacity ∧ s.entryOf n = none
      ∧ (s.pt n).state.conditioned = true

/-- A DRAFT point reads UNSCANNED at NORMAL, without candidate; a LIVE or PARKED point without entry and
mark stands at NORMAL with its peak at NORMAL (R8, R114, R128). -/
abbrev State.CalmLaw (s : State) : Prop :=
  (∀ n, (s.pt n).state = .draft →
      (s.pt n).quality = .unscanned ∧ (s.pt n).level = .normal ∧ (s.pt n).peak = .normal)
    ∧ ∀ n, (s.pt n).state.conditioned = true → (s.pt n).unlisted = false → s.entryOf n = none →
        (s.pt n).level = .normal ∧ (s.pt n).peak = .normal

/-! ### Profiles (R3, R5, R43 to R46) -/

/-- Only a LIVE or PARKED point holds a staged profile (R5, R17, R38). -/
abbrev State.StagedLaw (s : State) : Prop :=
  ∀ n, (s.pt n).staged ≠ none → (s.pt n).state.conditioned = true

/-- A record whose active profile has become `pr`: a changed ROUTE group makes the quality UNSCANNED and
clears the seeded flag, the candidate and the counter, a changed SCALE group clears the seeded flag, and
nothing else follows (R41, R44, R46). -/
def Point.withActive (x : Point) (pr : Profile) : Point :=
  { x with
    active := pr
    quality := if pr.route = x.active.route then x.quality else .unscanned
    seeded := if pr.route = x.active.route ∧ pr.scale = x.active.scale then x.seeded else false
    candidate := if pr.route = x.active.route then x.candidate else none
    confirmCounter := if pr.route = x.active.route then x.confirmCounter else 0 }

/-- A record after a promotion: its staged profile, if it has one, is the active one (R43). -/
def Point.promoted (x : Point) : Point :=
  match x.staged with
  | some pr => { x with staged := none }.withActive pr
  | none => x

/-- Whether the promotion of a record changes its ROUTE group (R41, R44). -/
def Point.reroutes (x : Point) : Bool :=
  match x.staged with
  | some pr => pr.route != x.active.route
  | none => false

/-- An engineering value: 24 bits, signed (Conventions of 00_scope.md). -/
abbrev inEngRange (v : Int) : Prop := -8388608 ≤ v ∧ v ≤ 8388607

/-- A profile within the ranges of R3 whose limits stand in the order of R4. -/
abbrev Profile.legal (pr : Profile) : Prop :=
  (-32768 ≤ pr.scale.gain ∧ pr.scale.gain ≤ 32767) ∧ inEngRange pr.scale.offset
    ∧ (∀ v, pr.band.loTrip = some v → inEngRange v) ∧ (∀ v, pr.band.loWarn = some v → inEngRange v)
    ∧ (∀ v, pr.band.hiWarn = some v → inEngRange v) ∧ (∀ v, pr.band.hiTrip = some v → inEngRange v)
    ∧ pr.band.hysteresis ≤ 65535 ∧ pr.band.inOrder = true
    ∧ 1 ≤ pr.policy.confirm ∧ pr.policy.confirm ≤ 8 ∧ pr.policy.staleLimit ≤ 255

/-- The timer length of R87, 1 to 255, and the ticks left of the timer that runs in a port state: at most 2 ms
of a probe, at most the length in the record of a conversion (R84, R87). -/
def Phase.timerInRange : Phase → Bool
  | .probing k => decide (k ≤ 200)
  | .busy r k | .cancelling r k =>
    decide (1 ≤ r.timerLength ∧ r.timerLength ≤ 255 ∧ k ≤ r.timerLength)
  | .offline | .idle | .faulted => true

/-- The ranges that R3, R4, R6, R8, R53, R84, R87, R145, R146 and R186 give: both profiles of a record, its
value, age and confirm counter; the period and the ticks of its timer; of a port T, the timeout count, the
stray count, the length in its record and the ticks of its timer; the ticks of the wake guard; and the
remaining time of a hold, at most 255 ms and reported as 1 to 255. A count of 3 timeouts stands only in
CANCELLING, FAULTED and OFFLINE (R93). -/
abbrev State.RangeLaw (s : State) : Prop :=
  (∀ n, (s.pt n).active.legal ∧ (∀ pr, (s.pt n).staged = some pr → pr.legal)
      ∧ inEngRange (s.pt n).value ∧ (s.pt n).age ≤ 255 ∧ (s.pt n).confirmCounter ≤ 8)
    ∧ 1 ≤ s.scan.period ∧ s.scan.period ≤ 65535
    ∧ (∀ k, s.scan.periodTimer = some k → k ≤ 655350)
    ∧ (∀ i, 1 ≤ (s.port i).timeout ∧ (s.port i).timeout ≤ 255 ∧ (s.port i).strayCount ≤ 255
        ∧ (s.port i).timeoutCount ≤ 3
        ∧ ((s.port i).timeoutCount = 3 → (s.port i).phase.isCancelling = true
          ∨ (s.port i).phase = .faulted ∨ (s.port i).phase = .offline)
        ∧ (s.port i).phase.timerInRange = true)
    ∧ (∀ k, s.run.wakeGuard = some k → k ≤ 1000)
    ∧ ∀ h ∈ s.holds, h.left ≤ 25500 ∧ 1 ≤ reportedTime h.left ∧ reportedTime h.left ≤ 255

/-! ### Holds, timers and change sets (R145, R151, R155) -/

/-- The hold table holds at most 8 records, at most one per point, each for a named point (R145). -/
abbrev State.HoldLaw (s : State) : Prop :=
  s.holds.length ≤ Config.holdCapacity
    ∧ (s.holds.map HoldRecord.point).Nodup
    ∧ ∀ h ∈ s.holds, (s.pt h.point).state.named = true

/-- Out of reset a timer that has run out has its expiry waiting, so that no tick passes before it is taken: a
conversion, a probe, a period, the wake guard and a hold last their time and no tick more (R70, R91, R94, R98,
R146, R149, R190). -/
abbrev State.ExpiryLaw (s : State) : Prop :=
  s.heldInReset = false → ∀ c ∈ s.dueExpiries, c ∈ s.pending

/-- Each member of a change set is a point in LIVE or PARKED (R155). -/
abbrev State.ChangeLaw (s : State) : Prop :=
  ∀ p n, s.isChanged p n = true → (s.pt n).state.conditioned = true

/-! ### The tag index (R23, R28) -/

/-- No two named points carry the same tag, none carries tag 0, and the lookup of a tag finds exactly
the named point that carries it (R1, R9, R23, R25). -/
abbrev State.TagLaw (s : State) : Prop :=
  ∀ t n, s.lookup t = some n ↔ (s.pt n).state.named = true ∧ (s.pt n).tag = t

/-- The records of a chain from one record on, at most `fuel` of them. -/
def State.chainFrom (s : State) : Nat → Option PointNo → List PointNo
  | 0, _ => []
  | _ + 1, none => []
  | fuel + 1, some n => n :: s.chainFrom fuel (s.pt n).next

/-- The chain of bucket `b` (R23). -/
def State.chain (s : State) (b : Byte) : List PointNo := s.chainFrom 512 (s.head b)

/-- The index of R23: the chain of a bucket holds each named point of the bucket exactly once and no
other record, and the next-in-bucket link of a record on no chain is none (R18, R23, R24); no two named
points carry one tag and none carries tag 0 (R1, R9). -/
abbrev State.IndexLaw (s : State) : Prop :=
  (∀ b, (s.chain b).Nodup)
    ∧ (∀ b n, n ∈ s.chain b ↔ (s.pt n).state.named = true ∧ bucketOf (s.pt n).tag = b)
    ∧ (∀ n, (s.pt n).state.named = false → (s.pt n).next = none)
    ∧ (∀ n, (s.pt n).state.named = true → (s.pt n).tag ≠ 0#32)
    ∧ ∀ n m, (s.pt n).state.named = true → (s.pt m).state.named = true →
        (s.pt n).tag = (s.pt m).tag → n = m

/-! ### What a boundary of the scan does, block by block -/

/-- From `s` to `v` every staged profile is promoted: the records, the records of conversions that a ROUTE
change supersedes, and the change sets (R43 to R46). -/
def State.PromotesTo (s v : State) : Prop :=
  v = { s with points := v.points, ports := v.ports, changed := v.changed }
    ∧ (∀ n, v.pt n = (s.pt n).promoted)
    ∧ (∀ i, ((∃ n, (s.pt n).reroutes = true ∧ (s.pt n).inFlight = some i) →
          v.port i = { s.port i with
            phase := (s.port i).phase.mapRecord fun r => { r with superseded := true } })
        ∧ ((∀ n, (s.pt n).reroutes = true → (s.pt n).inFlight ≠ some i) → v.port i = s.port i))
    ∧ ∀ q, (v.changed.get q).cursor = (s.changed.get q).cursor
        ∧ ∀ n, (v.isChanged q n = true ↔ s.isChanged q n = true
            ∨ ((s.pt n).reroutes = true ∧ (s.pt n).quality ≠ .unscanned))

/-- Whether a record in the list of an ending pass turns STALE at its pass-end: LIVE, a limit that the
incremented age reaches, and a quality open to the test (R112). -/
def Point.stales (x : Point) : Bool :=
  x.state == .live && x.active.policy.staleLimit != 0
    && decide (x.active.policy.staleLimit ≤ min 255 (x.age + 1))
    && (x.quality == .good || x.quality == .overrange || x.quality == .portFault)

/-- A record in the list of an ending pass after its aging (R112). -/
def Point.aged (x : Point) : Point :=
  if x.state = .live then
    { x with
      age := min 255 (x.age + 1)
      quality := if x.stales then .stale else x.quality }
  else x

/-- From `s` to `u` a pass ends: promotion, then aging of the points of the list that ended, the promoted
list, the pass counter, CYM, and the scanner's next state (R50, R68, R69, R82, R112). -/
def State.EndsPassTo (s u : State) (halted : Bool) : Prop :=
  ∃ v, s.PromotesTo v ∧ u = { v with points := u.points, changed := u.changed, scan := u.scan }
    ∧ (∀ n, u.pt n = if n ∈ s.scan.active.map Entry.point then (v.pt n).aged else v.pt n)
    ∧ (∀ q, (u.changed.get q).cursor = (v.changed.get q).cursor
        ∧ ∀ n, (u.isChanged q n = true ↔ v.isChanged q n = true
            ∨ (n ∈ s.scan.active.map Entry.point ∧ (v.pt n).stales = true)))
    ∧ ∀ es, es = (match s.scan.staged with
          | some ns => ns.map fun n => (⟨n, .none⟩ : Entry)
          | none => s.scan.active) →
        (halted = true ∨ s.scan.stopRequested = true ∨ s.scan.scanMode = .oneShot →
          u.scan = { s.scan with
            scanner := .idle, stopRequested := false, late := false, periodTimer := none
            passCounter := s.scan.passCounter + 1#16, active := es, staged := none, cym := true })
        ∧ (halted = false → s.scan.stopRequested = false → s.scan.scanMode = .cyclic →
          u.scan = if s.scan.late then
            { s.scan with
              scanner := .pass, late := false, passCounter := s.scan.passCounter + 1#16
              active := es.map fun e => { e with outcome := .pending }
              staged := none, cym := false }
          else
            { s.scan with
              scanner := .gap, passCounter := s.scan.passCounter + 1#16, active := es
              staged := none, cym := true })

/-- From `s` to `v` the open entries of one list are withdrawn: PENDING and IN_FLIGHT become CANCELLED, and
a port BUSY with the conversion of an IN_FLIGHT one sends CANCEL and goes CANCELLING with its record
cancelled (R73, R92). -/
def State.WithdrawsTo (s v : State) (o : Origin) : Prop :=
  v = { s with
      ports := v.ports
      scan := s.scan.setEntries o ((s.scan.entries o).map fun e =>
        if e.outcome = .pending ∨ e.outcome = .inFlight then { e with outcome := .cancelled } else e) }
    ∧ ∀ i,
      (∀ r k, (s.port i).phase = .busy r k → ⟨r.point, .inFlight⟩ ∈ s.scan.entries o →
        v.port i = { s.port i with
          phase := .cancelling { r with cancelled := true } r.timerLength
          sent := (s.port i).sent ++ [.cancel r.seq] })
      ∧ ((∀ r k, (s.port i).phase = .busy r k → ⟨r.point, .inFlight⟩ ∉ s.scan.entries o) →
        v.port i = s.port i)

/-- From `s` to `t` the scan is halted: a pass is withdrawn and ends, a GAP is promoted, a run is aborted
without a run end, and the scanner is IDLE (R74). -/
def State.HaltsTo (s t : State) : Prop :=
  ∃ w,
    (s.scan.scanner = .pass → ∃ v, s.WithdrawsTo v .routine ∧ v.EndsPassTo w true)
    ∧ (s.scan.scanner = .gap → ∃ v, s.PromotesTo v
        ∧ w = { v with scan := { s.scan with
            scanner := .idle, stopRequested := false, late := false, periodTimer := none
            staged := none
            active := (match s.scan.staged with
              | some ns => ns.map fun n => ⟨n, .none⟩
              | none => s.scan.active) } })
    ∧ (s.scan.scanner = .idle → w = { s with scan := { s.scan with
        stopRequested := false, late := false, periodTimer := none } })
    ∧ (s.scan.prioActive = true → ∃ x, w.WithdrawsTo x .priority
        ∧ t = { x with scan := { x.scan with prioActive := false, rerun := false } })
    ∧ (s.scan.prioActive = false → t = w)

end Sys2Proof.Machine
end

