-- ==== Sys2Proof/Certificates/Slice0/Obligations.lean ====
section
/-! DEFINITION. The statements for the provers. Each is about the part's steps over every state that meets its
premises; a docstring names the rules it follows, and the log entry where a clause is the model's choice. -/

section

open Sys2Proof Sys2Proof.Machine

/-! ### Steps, reset, frames -/

/-- The model's own queue of steps (log entry 12, DESIGN CHOICE), of which the spec says nothing: a step with a
command at the front of the queue is that command's `exec` over the queue's rest. -/
def Obligations.StepRunsFrontCommand : Prop :=
  ∀ (c : Instr) (rest : List Instr) (s : State),
    step { s with pending := c :: rest } = exec c { s with pending := rest }

/-- The model's own time base (log entries 3 and 4): with nothing waiting, a step takes one tick off every
running timer and queues exactly the expiries that are due; held in reset it changes nothing. -/
def Obligations.IdleStepElapsesOneTick : Prop :=
  ∀ s : State, s.pending = [] →
    (s.heldInReset = true → step s = .next s)
    ∧ (s.heldInReset = false → ∃ t, step s = .next t
        ∧ t = { s with
            ports := t.ports, scan := t.scan, run := t.run, holds := t.holds, pending := t.pending }
        ∧ (∀ i, t.port i = (s.port i).elapse)
        ∧ t.scan = { s.scan with periodTimer := s.scan.periodTimer.map fun k => k - 1 }
        ∧ t.run = { s.run with wakeGuard := s.run.wakeGuard.map fun k => k - 1 }
        ∧ t.holds = s.holds.map (fun h => { h with left := h.left - 1 })
        ∧ (∀ i, Instr.probeTimerExpiry i ∈ t.pending ↔ ∃ k, (s.port i).phase = .probing k ∧ k ≤ 1)
        ∧ (∀ i, Instr.timeout i ∈ t.pending ↔ ∃ r k, (s.port i).phase = .busy r k ∧ k ≤ 1)
        ∧ (∀ i, Instr.cancelTimerExpiry i ∈ t.pending ↔
            ∃ r k, (s.port i).phase = .cancelling r k ∧ k ≤ 1)
        ∧ (Instr.periodTick ∈ t.pending ↔ ∃ k, s.scan.periodTimer = some k ∧ k ≤ 1)
        ∧ (Instr.wakeGuardExpiry ∈ t.pending ↔ ∃ k, s.run.wakeGuard = some k ∧ k ≤ 1)
        ∧ (∀ n, Instr.holdExpiry n ∈ t.pending ↔ ∃ h ∈ s.holds, h.point = n ∧ h.left ≤ 1)
        ∧ ∀ c ∈ t.pending, (∃ i, c = .probeTimerExpiry i) ∨ (∃ i, c = .timeout i)
            ∨ (∃ i, c = .cancelTimerExpiry i) ∨ c = .periodTick ∨ c = .wakeGuardExpiry
            ∨ ∃ n, c = .holdExpiry n)

/-- The state after reset meets every law that the steps keep. -/
def Obligations.ResetStateMeetsEveryLaw : Prop :=
  State.reset.ModeLaw ∧ State.reset.GuardLaw ∧ State.reset.EnableLaw ∧ State.reset.ScannerLaw
    ∧ State.reset.TimerLaw ∧ State.reset.RunLaw ∧ State.reset.ListLaw ∧ State.reset.Settled
    ∧ State.reset.RecordLaw ∧ State.reset.FlightLaw ∧ State.reset.ConditionListLaw
    ∧ State.reset.MarkLaw ∧ State.reset.CalmLaw ∧ State.reset.StagedLaw ∧ State.reset.RangeLaw
    ∧ State.reset.HoldLaw ∧ State.reset.ExpiryLaw ∧ State.reset.ChangeLaw ∧ State.reset.IndexLaw

/-- POWER_ON and the release of RESET_N give the table of R196 and sample ADDR (R164). While power is coming up
and while RESET_N is held low the part is held in reset: CYM is driven low, ATTN_N is released, and no step but an
edge of RESET_N or the end of power-on has an effect; POWER_ON ends the one and the release of RESET_N the other.
Out of reset CYM shows the level of the last pass start or pass-end (R82, R182, R196). The model's choices are that
the steps waiting outside the part stay, that POWER_ON leaves RESET_N as it stands and an edge of RESET_N leaves
power as it stands, and that the blocks keep their content while the part is held in reset, CYM apart, and take the
table at its end (log entry 13); and the ADDR level of `State.reset` (log entry 1). -/
def Obligations.PowerOnAndResetN : Prop :=
  State.reset.InitialTable
    ∧ State.comingUp.heldInReset = true ∧ exec (.powerOn false) State.comingUp = .next State.reset
    ∧ ∀ (high : Bool) (s : State),
        (∃ t, exec (.powerOn high) s = .next t ∧ t.InitialTable ∧ t.inReset = s.inReset
          ∧ t.poweringUp = false
          ∧ t.i2cAddress = (if high then 0x49#7 else 0x48#7) ∧ t.pending = s.pending)
        ∧ (∃ t, exec (.resetN (.rise high)) s = .next t ∧ t.InitialTable ∧ t.inReset = false
          ∧ t.poweringUp = s.poweringUp
          ∧ t.i2cAddress = (if high then 0x49#7 else 0x48#7) ∧ t.pending = s.pending)
        ∧ (∃ t, exec (.resetN .fall) s = .next t ∧ t.cymHigh = false ∧ t.attnLow = false
          ∧ t = { s with inReset := true, scan := { s.scan with cym := false } })
        ∧ (s.inReset = true ∨ s.poweringUp = true → s.cymHigh = false ∧ s.attnLow = false
          ∧ ∀ c : Instr, (∀ b, c ≠ .powerOn b) → (∀ e, c ≠ .resetN e) → exec c s = .next s)
        ∧ (s.inReset = false → s.poweringUp = false → s.cymHigh = s.scan.cym)

/-- Bytes are taken as a command frame exactly when they are the frame that R198 and R199 build, with at
most 40 parameters (R165). -/
def Obligations.FramesParseExactlyWhenBuilt : Prop :=
  ∀ (bytes : List Byte) (f : Frame),
    parseFrame bytes = some f ↔ f.params.length ≤ 40 ∧ bytes = frameBytes f

/-- A burst is taken for an undamaged message exactly when it is the burst that R204 builds of it. -/
def Obligations.BurstsDecodeExactlyWhenBuilt : Prop :=
  ∀ (burst : List Byte) (m : LinkRx), m ≠ .damaged →
    (decodeBurst burst = m ↔ burst = linkRxBytes m)

/-! ### The executor -/

/-- The executor takes the command of a WAITING port, and where both wait that of the port not served last
(R171), out of reset (R196). The forty commands have the opcodes of the table of R201, and a command that is
taken with any other opcode is answered UNKNOWN in every mode (R173, R201). -/
def Obligations.ExecutorTakesPortsInTurn : Prop :=
  ∀ (p : CmdPort) (op : Byte) (ps : List Byte) (s : State),
    let table : List (Byte × Cmd) :=
      [(0x10#8, .define), (0x11#8, .find), (0x12#8, .readProfile), (0x13#8, .readValue), (0x14#8, .edit),
        (0x15#8, .activate), (0x16#8, .park), (0x17#8, .unpark), (0x18#8, .retire),
        (0x19#8, .readChanged), (0x20#8, .hold), (0x21#8, .release), (0x30#8, .rlistInsert),
        (0x31#8, .rlistRemove), (0x32#8, .rlistClear), (0x33#8, .rlistRead), (0x34#8, .plistSet),
        (0x35#8, .plistRead), (0x40#8, .scanStart), (0x41#8, .scanStop), (0x42#8, .scanHalt),
        (0x43#8, .skipPass), (0x44#8, .runPriority), (0x45#8, .abortPoint), (0x46#8, .scanConfig),
        (0x47#8, .scanStatus), (0x50#8, .condRead), (0x51#8, .ack), (0x52#8, .ackUpto),
        (0x53#8, .condClear), (0x60#8, .portConfig), (0x61#8, .portRestore), (0x62#8, .portStatus),
        (0x70#8, .status), (0x71#8, .clearFlags), (0x72#8, .attnMask), (0x73#8, .identify),
        (0x74#8, .enterQuiet), (0x75#8, .exitQuiet), (0x76#8, .softReset)]
    (s.takes p op ps = true ↔
      s.inReset = false ∧ s.poweringUp = false ∧ (s.cmd p).state = .waiting ⟨op, ps⟩
        ∧ ((∃ f, (s.cmd (otherPort p)).state = .waiting f) → s.servedLast = otherPort p))
    ∧ (∀ c, s.Takes c p ps ↔ ∃ code, (code, c) ∈ table ∧ s.takes p code ps = true)
    ∧ (∀ c, opcodeOf c = op ↔ (op, c) ∈ table)
    ∧ (s.takes p op ps = true → (∀ c, (op, c) ∉ table) →
        exec (.unknownOpcode p op ps) s = .next (s.answered p .unknown []))

/-- Every taken command gets exactly one response at its own port, with the overlap mark as it stood and at
most 96 bytes of data; but for SOFT_RESET the other port keeps its command and its response (R171, R172,
R174). -/
def Obligations.TakenCommandGetsOneResponse : Prop :=
  ∀ (c : Cmd) (p : CmdPort) (ps : List Byte) (s : State), s.Takes c p ps →
    ∃ t r, exec (rowOf c p ps) s = .next t
      ∧ t.cmd p = { s.cmd p with state := .done r, lastExpired := (t.cmd p).lastExpired }
      ∧ r.overlap = (s.cmd p).overlap ∧ r.data.length ≤ 96
      ∧ r.status ∉ [Status.unknown, .frame, .abandoned, .notReady]
      ∧ t.servedLast = p
      ∧ (c ≠ .softReset → t.cmd (otherPort p) =
          { s.cmd (otherPort p) with lastExpired := (t.cmd (otherPort p)).lastExpired })
      ∧ t.inReset = false ∧ t.poweringUp = false
      ∧ t.i2cAddress = s.i2cAddress ∧ t.i2cAcks = s.i2cAcks ∧ t.pending = s.pending

/-- Before a command's own checks: BUSY in WAKING and QUIESCING unless it is a read or SOFT_RESET, QUIET in
QUIET for the three commands that need ACTIVE, then BAD_PARAM for a length that does not fit the table of R201;
refused so, it changes nothing but its port (R173, R187, R201). -/
def Obligations.ModeAndLengthComeFirst : Prop :=
  ∀ (c : Cmd) (p : CmdPort) (ps : List Byte) (s : State), s.Takes c p ps →
    let always := c ∈ [Cmd.find, .readProfile, .readValue, .readChanged, .rlistRead, .plistRead,
      .condRead, .portStatus, .scanStatus, .status, .identify, .softReset]
    let activeOnly := c ∈ [Cmd.scanStart, .runPriority, .portRestore]
    let fixed : Cmd → Nat
      | .rlistClear | .scanStop | .scanHalt | .skipPass | .runPriority | .scanStatus | .status
      | .identify | .enterQuiet | .exitQuiet | .softReset => 0
      | .readChanged | .plistSet | .scanStart | .portRestore | .clearFlags | .attnMask => 1
      | .plistRead | .condRead | .portStatus => 2
      | .rlistRead | .scanConfig | .portConfig => 3
      | .define | .find | .ackUpto => 4
      | .readValue | .activate | .park | .unpark | .retire | .release | .rlistRemove | .abortPoint
      | .ack | .condClear => 5
      | .readProfile | .hold => 6
      | .rlistInsert => 7
      | .edit => 8
    (¬always → s.run.mode = .waking ∨ s.run.mode = .quiescing →
      exec (rowOf c p ps) s = .next (s.answered p .busy []))
    ∧ (activeOnly → s.run.mode = .quiet → exec (rowOf c p ps) s = .next (s.answered p .quiet []))
    ∧ (always ∨ s.run.mode = .active ∨ (s.run.mode = .quiet ∧ ¬activeOnly) →
        (if c = .edit ∨ c = .plistSet then ps.length < fixed c else ps.length ≠ fixed c) →
        exec (rowOf c p ps) s = .next (s.answered p .badParam []))

/-- A refused command changes nothing but its port, EXPIRED apart, which clears a record (R2, R30, R36, R48, R60,
R100, R134, R147, R148, R150, R187), and carries data only with HELD, the time left on a hold of the other
port, and with REVISION, the current revision of a point (R174). -/
def Obligations.RefusedCommandsChangeNothing : Prop :=
  ∀ (c : Cmd) (p : CmdPort) (ps : List Byte) (s t : State) (r : Response), s.Takes c p ps →
    exec (rowOf c p ps) s = .next t → (t.cmd p).state = .done r → r.status ≠ .ok →
    r.status ≠ .expired →
    t = s.answered p r.status r.data
      ∧ (r.data = []
        ∨ (r.status = .held ∧ ∃ h ∈ s.holds, h.port ≠ p ∧ r.data = [byteOf (reportedTime h.left)])
        ∨ (r.status = .revision ∧ ∃ n, r.data = bytes16 (s.pt n).revision))

/-- A command whose selector does not resolve is refused before its other checks, with nothing changed, in QUIET
and ACTIVE, and READ_PROFILE and READ_VALUE in every mode: BAD_PARAM for an undefined selector or a NUMBER
block that R202 refuses, NO_POINT for a number above 511 or of a FREE or RETIRING record, NO_TAG for a tag
that no named point carries; and a number or a tag that resolves names the one point it stands for (R25,
R29, R30, R187, R202). -/
def Obligations.SelectorsResolveOrRefuse : Prop :=
  (∀ (s : State) (ps : List Byte) (i : Nat), s.IndexLaw →
    (byteAt ps i ≠ 0x01#8 → byteAt ps i ≠ 0x02#8 → s.resolve (selectorAt ps i) = .error .badParam)
    ∧ (byteAt ps i = 0x01#8 → (byteAt ps (i + 1) ≠ 0x00#8 ∨ byteAt ps (i + 2) ≠ 0x00#8) →
        s.resolve (selectorAt ps i) = .error .badParam)
    ∧ (byteAt ps i = 0x01#8 → byteAt ps (i + 1) = 0x00#8 → byteAt ps (i + 2) = 0x00#8 →
        (∀ n : PointNo, (s.resolve (selectorAt ps i) = .ok n ↔
          n.val = numAt16 ps (i + 3) ∧ (s.pt n).state.named = true))
        ∧ ((∀ n : PointNo, n.val = numAt16 ps (i + 3) → (s.pt n).state.named = false) →
          s.resolve (selectorAt ps i) = .error .noPoint))
    ∧ (byteAt ps i = 0x02#8 →
        (∀ n : PointNo, (s.resolve (selectorAt ps i) = .ok n ↔
          (s.pt n).state.named = true ∧ (s.pt n).tag = wordAt32 ps (i + 1)))
        ∧ ((∀ n : PointNo, (s.pt n).state.named = true → (s.pt n).tag ≠ wordAt32 ps (i + 1)) →
          s.resolve (selectorAt ps i) = .error .noTag)))
  ∧ ∀ (p : CmdPort) (ps : List Byte) (s : State) (st : Status) (c : Cmd),
    s.Takes c p ps → (s.Works ∨ c = .readProfile ∨ c = .readValue) → lengthFits c ps.length = true →
    (c ∈ [Cmd.readProfile, .readValue, .edit, .activate, .park, .unpark, .retire, .hold, .release,
        .rlistRemove, .abortPoint, .ack, .condClear] ∧ s.resolve (selectorAt ps 0) = .error st
      ∨ c = .rlistInsert ∧ s.resolve (selectorAt ps 2) = .error st) →
    exec (rowOf c p ps) s = .next (s.answered p st [])

/-- EDIT, ACTIVATE, PARK, UNPARK, RETIRE and HOLD of a point that the other port holds are answered HELD with
the remaining time in whole milliseconds, rounded up, at least 1, and change nothing; and no command of that
port but SOFT_RESET moves the tag, the state or the revision of a point held by the other, or its hold
(R146, R148). -/
def Obligations.HoldKeepsTheOtherPortOff : Prop :=
  ∀ (c : Cmd) (p : CmdPort) (ps : List Byte) (s : State) (n : PointNo) (h : HoldRecord),
    s.Takes c p ps → s.HoldLaw → h ∈ s.holds → h.point = n → h.port ≠ p →
    (c ∈ [Cmd.edit, .activate, .park, .unpark, .retire, .hold] → s.Works →
      lengthFits c ps.length = true → (c = .hold → numAt ps 5 ≠ 0) →
      s.resolve (selectorAt ps 0) = .ok n →
      ∃ k, exec (rowOf c p ps) s = .next (s.answered p .held [byteOf k])
        ∧ 1 ≤ k ∧ h.left ≤ 100 * k ∧ (k ≠ 1 → 100 * (k - 1) < h.left))
    ∧ (c ≠ .softReset → ∃ t, exec (rowOf c p ps) s = .next t ∧ h ∈ t.holds
      ∧ (t.pt n).tag = (s.pt n).tag ∧ (t.pt n).state = (s.pt n).state
      ∧ (t.pt n).revision = (s.pt n).revision)

/-! ### The table group -/

/-- DEFINE: BAD_PARAM for tag 0, TAG_IN_USE, TABLE_FULL, or the lowest-numbered FREE record as a DRAFT point
with every field at its default, the revision one up and the record linked at the head of its bucket; no
other record and no other head is written (R12, R13, R26). -/
def Obligations.DefineAllocatesTheLowestFreeRecord : Prop :=
  ∀ (p : CmdPort) (ps : List Byte) (s : State), s.Takes .define p ps → s.Works → ps.length = 4 →
    s.IndexLaw →
    let t := wordAt32 ps 0
    (t = 0#32 → exec (.define p ps) s = .next (s.answered p .badParam []))
    ∧ (t ≠ 0#32 → (∃ n, (s.pt n).state.named = true ∧ (s.pt n).tag = t) →
        exec (.define p ps) s = .next (s.answered p .tagInUse []))
    ∧ (t ≠ 0#32 → (∀ n, (s.pt n).state.named = true → (s.pt n).tag ≠ t) →
        (∀ n, (s.pt n).state ≠ .free) → exec (.define p ps) s = .next (s.answered p .tableFull []))
    ∧ ∀ n, t ≠ 0#32 → (∀ m, (s.pt m).state.named = true → (s.pt m).tag ≠ t) →
        (s.pt n).state = .free → (∀ m, m < n → (s.pt m).state ≠ .free) →
        ∃ u : State, exec (.define p ps) s =
            .next (u.answered p .ok (pointBytes n ++ bytes16 ((s.pt n).revision + 1#16)))
          ∧ u = { s with points := u.points, heads := u.heads }
          ∧ u.pt n =
            { state := .draft, tag := t, revision := (s.pt n).revision + 1#16,
              next := s.head (bucketOf t), active := Profile.default, staged := none, raw := 0#16,
              value := 0, quality := .unscanned, age := 0, seeded := false, inFlight := none,
              level := .normal, candidate := none, confirmCounter := 0, peak := .normal,
              unlisted := false }
          ∧ (∀ m, m ≠ n → u.pt m = s.pt m)
          ∧ u.head (bucketOf t) = some n ∧ ∀ b, b ≠ bucketOf t → u.head b = s.head b

/-- FIND, READ_VALUE and READ_PROFILE answer with the items of the point, in every mode, and change nothing;
the states, qualities and levels carry the codes of R202, and the 27 bytes of the four groups stand in its
order, with an absent limit as 00h; FIND of a tag that no named point carries is NO_TAG (R20, R21, R31, R202,
R203). -/
def Obligations.PointReadsReport : Prop :=
  ∀ (p : CmdPort) (ps : List Byte) (s : State) (n : PointNo),
    let state : Byte := match (s.pt n).state with
      | .free => 0x00#8
      | .draft => 0x01#8
      | .live => 0x02#8
      | .parked => 0x03#8
      | .retiring => 0x04#8
    let quality : Byte := match (s.pt n).quality with
      | .unscanned => 0x00#8
      | .good => 0x01#8
      | .overrange => 0x02#8
      | .portFault => 0x03#8
      | .stale => 0x04#8
    let level : Level → Byte
      | .normal => 0x00#8
      | .lowWarn => 0x01#8
      | .lowTrip => 0x02#8
      | .highWarn => 0x03#8
      | .highTrip => 0x04#8
    let limit : Option Int → List Byte
      | some v => bytes24 (BitVec.ofInt 24 v)
      | none => [0x00#8, 0x00#8, 0x00#8]
    let presence (b : Band) : Byte := BitVec.ofNat 8
      (b.loTrip.isSome.toNat + 2 * b.loWarn.isSome.toNat + 4 * b.hiWarn.isSome.toNat
        + 8 * b.hiTrip.isSome.toNat)
    let groups (pr : Profile) : List Byte :=
      [BitVec.ofNat 8 pr.route.port.val, BitVec.ofNat 8 pr.route.channel.val,
          BitVec.ofNat 8 pr.route.settle.val]
        ++ (bytes16 (BitVec.ofInt 16 pr.scale.gain) ++ bytes24 (BitVec.ofInt 24 pr.scale.offset)
          ++ [BitVec.ofNat 8 pr.scale.weight.val])
        ++ ([presence pr.band] ++ limit pr.band.loTrip ++ limit pr.band.loWarn
          ++ limit pr.band.hiWarn ++ limit pr.band.hiTrip
          ++ bytes16 (BitVec.ofNat 16 pr.band.hysteresis))
        ++ [BitVec.ofNat 8 pr.policy.confirm, if pr.policy.cls = .latch then 0x01#8 else 0x00#8,
          BitVec.ofNat 8 pr.policy.staleLimit]
    (s.Takes .find p ps → ps.length = 4 → s.IndexLaw →
      ((s.pt n).state.named = true → (s.pt n).tag = wordAt32 ps 0 →
        exec (.find p ps) s = .next (s.answered p .ok
          (pointBytes n ++ [state] ++ bytes16 (s.pt n).revision)))
      ∧ ((∀ m, (s.pt m).state.named = true → (s.pt m).tag ≠ wordAt32 ps 0) →
        exec (.find p ps) s = .next (s.answered p .noTag [])))
    ∧ (s.Takes .readValue p ps → ps.length = 5 → s.resolve (selectorAt ps 0) = .ok n →
        exec (.readValue p ps) s = .next (s.answered p .ok
          ([state] ++ bytes16 (s.pt n).revision ++ engBytes (s.pt n).value
            ++ bytes16 (s.pt n).raw ++ [quality, byteOf (s.pt n).age,
              level (s.pt n).level, level (s.pt n).peak])))
    ∧ (s.Takes .readProfile p ps → ps.length = 6 → s.resolve (selectorAt ps 0) = .ok n →
        let head := pointBytes n ++ [state] ++ bytes16 (s.pt n).revision
        (byteAt ps 5 = 0x00#8 → exec (.readProfile p ps) s = .next (s.answered p .ok
          (head ++ [flagByte (s.pt n).staged.isSome, 0x00#8] ++ groups (s.pt n).active)))
        ∧ (byteAt ps 5 = 0x01#8 → (s.pt n).staged = none →
          exec (.readProfile p ps) s = .next (s.answered p .ok
            (head ++ [0x00#8, 0x00#8] ++ groups (s.pt n).active)))
        ∧ (∀ pr, byteAt ps 5 = 0x01#8 → (s.pt n).staged = some pr →
          exec (.readProfile p ps) s = .next (s.answered p .ok
            (head ++ [0x01#8, 0x01#8] ++ groups pr)))
        ∧ (byteAt ps 5 ≠ 0x00#8 → byteAt ps 5 ≠ 0x01#8 →
          exec (.readProfile p ps) s = .next (s.answered p .badParam [])))

/-- An accepted EDIT of a DRAFT point, or of any point with the scanner IDLE, replaces the group in the
active profile, with the effects of R44 to R46 for the groups that differ, and the engine then looks at its
cursors again; of a LIVE or PARKED point in PASS or GAP it writes the group into the staged profile, made as
a copy of the active one if absent; beside that only the revision moves (R36, R38 to R41, R44 to R46). -/
def Obligations.EditWritesOneProfile : Prop :=
  ∀ (p : CmdPort) (ps : List Byte) (s : State) (n : PointNo) (g : Group),
    s.Takes .edit p ps → s.Works → 8 ≤ ps.length → s.resolve (selectorAt ps 0) = .ok n →
    s.blockingHold p n = none → wordAt16 ps 5 = (s.pt n).revision →
    groupOf (byteAt ps 7) (ps.drop 8) = some g → g.inOrder = true →
    let x := s.pt n
    let pr := x.active.write g
    let rerouted := pr.route ≠ x.active.route
    (x.state = .draft ∨ s.scan.scanner = .idle →
      ∃ u : State, exec (.edit p ps) s =
          .next (u.settle.answered p .ok (bytes16 (x.revision + 1#16) ++ [0x00#8]))
        ∧ u = { s with points := u.points, ports := u.ports, changed := u.changed }
        ∧ u.pt n = { x.withActive pr with revision := x.revision + 1#16 }
        ∧ (∀ m, m ≠ n → u.pt m = s.pt m)
        ∧ (∀ i, (rerouted ∧ x.inFlight = some i →
              u.port i = { s.port i with
                phase := (s.port i).phase.mapRecord fun r => { r with superseded := true } })
            ∧ (¬(rerouted ∧ x.inFlight = some i) → u.port i = s.port i))
        ∧ ∀ q, (u.changed.get q).cursor = (s.changed.get q).cursor
            ∧ ∀ m, (u.isChanged q m = true ↔ s.isChanged q m = true
                ∨ (m = n ∧ rerouted ∧ x.quality ≠ .unscanned)))
    ∧ (x.state ≠ .draft → s.scan.scanner ≠ .idle →
      exec (.edit p ps) s =
        .next (State.answered
          { s with
            points := s.points.set n { x with
              staged := some ((x.staged.getD x.active).write g)
              revision := x.revision + 1#16 } }
          p .ok (bytes16 (x.revision + 1#16) ++ [0x01#8])))

/-- EDIT's checks after the hold check, in their order: REVISION with the current revision, BAD_PARAM for an
undefined group, a length or a field that does not fit, BAD_BAND for limits out of the order lo_trip ≤
lo_warn < hi_warn ≤ hi_trip on the pairs present; and the group that a code and its bytes hold, each field at
its place in the table of R202, a limit present where its bit of the presence byte is set (R3, R4, R36, R37,
R202). -/
def Obligations.EditChecksRevisionThenGroup : Prop :=
  (∀ (p : CmdPort) (ps : List Byte) (s : State) (n : PointNo),
    s.Takes .edit p ps → s.Works → 8 ≤ ps.length → s.resolve (selectorAt ps 0) = .ok n →
    s.blockingHold p n = none →
    let code := byteAt ps 7
    let fs := ps.drop 8
    let fits :=
      (code = 0x00#8 ∧ fs.length = 3 ∧ numAt fs 0 ≤ 3 ∧ numAt fs 1 ≤ 63 ∧ numAt fs 2 ≤ 15)
      ∨ (code = 0x01#8 ∧ fs.length = 6 ∧ numAt fs 5 ≤ 7)
      ∨ (code = 0x02#8 ∧ fs.length = 15 ∧ numAt fs 0 ≤ 15)
      ∨ (code = 0x03#8 ∧ fs.length = 3 ∧ 1 ≤ numAt fs 0 ∧ numAt fs 0 ≤ 8 ∧ numAt fs 1 ≤ 1)
    (wordAt16 ps 5 ≠ (s.pt n).revision →
      exec (.edit p ps) s = .next (s.answered p .revision (bytes16 (s.pt n).revision)))
    ∧ (wordAt16 ps 5 = (s.pt n).revision → ¬fits →
      exec (.edit p ps) s = .next (s.answered p .badParam []))
    ∧ (fits ↔ ∃ g, groupOf code fs = some g)
    ∧ ∀ b, wordAt16 ps 5 = (s.pt n).revision → groupOf code fs = some (.band b) →
      b.inOrder = false → exec (.edit p ps) s = .next (s.answered p .badBand []))
  ∧ (∀ (code : Byte) (fs : List Byte) (g : Group),
    let word (i : Nat) : BitVec 16 := byteAt fs i ++ byteAt fs (i + 1)
    let eng (i : Nat) : BitVec 24 := byteAt fs i ++ byteAt fs (i + 1) ++ byteAt fs (i + 2)
    let limit (bit i : Nat) : Option Int :=
      if (byteAt fs 0).getLsbD bit then some (eng i).toInt else none
    groupOf code fs = some g ↔
      match g with
      | .route r => code = 0x00#8 ∧ fs.length = 3
          ∧ numAt fs 0 = r.port.val ∧ numAt fs 1 = r.channel.val ∧ numAt fs 2 = r.settle.val
      | .scale c => code = 0x01#8 ∧ fs.length = 6
          ∧ c.gain = (word 0).toInt ∧ c.offset = (eng 2).toInt ∧ numAt fs 5 = c.weight.val
      | .band b => code = 0x02#8 ∧ fs.length = 15 ∧ numAt fs 0 ≤ 15
          ∧ b.loTrip = limit 0 1 ∧ b.loWarn = limit 1 4 ∧ b.hiWarn = limit 2 7 ∧ b.hiTrip = limit 3 10
          ∧ b.hysteresis = (word 13).toNat
      | .policy q => code = 0x03#8 ∧ fs.length = 3 ∧ 1 ≤ numAt fs 0 ∧ numAt fs 0 ≤ 8
          ∧ q.confirm = numAt fs 0 ∧ q.staleLimit = numAt fs 2
          ∧ (numAt fs 1 = 0 ∧ q.cls = .notify ∨ numAt fs 1 = 1 ∧ q.cls = .latch))
  ∧ ∀ b : Band, b.inOrder = true ↔
      (∀ x y, b.loTrip = some x → b.loWarn = some y → x ≤ y)
      ∧ (∀ x y, b.hiWarn = some x → b.hiTrip = some y → x ≤ y)
      ∧ ∀ x y, b.loTrip = some x ∨ b.loWarn = some x → b.hiWarn = some y ∨ b.hiTrip = some y → x < y

/-- ACTIVATE takes DRAFT to LIVE, PARK LIVE to PARKED with quality STALE, UNPARK PARKED to LIVE with age,
candidate and counter cleared; each raises the revision, writes nothing else and lets the engine look at its
cursors again; from any other state it is BAD_STATE (R11, R14 to R16, R65). -/
def Obligations.LifecycleCommandsMoveTheState : Prop :=
  ∀ (p : CmdPort) (ps : List Byte) (s : State) (n : PointNo), s.Works → ps.length = 5 →
    s.resolve (selectorAt ps 0) = .ok n → s.blockingHold p n = none →
    let x := s.pt n
    let rev := x.revision + 1#16
    (s.Takes .activate p ps → x.state = .draft →
      exec (.activate p ps) s = .next (State.answered
        (State.settle { s with points := s.points.set n { x with state := .live, revision := rev } })
        p .ok (bytes16 rev)))
    ∧ (s.Takes .park p ps → x.state = .live →
      exec (.park p ps) s = .next (State.answered
        (State.settle { s with
          points := s.points.set n { x with state := .parked, quality := .stale, revision := rev } })
        p .ok (bytes16 rev)))
    ∧ (s.Takes .unpark p ps → x.state = .parked →
      exec (.unpark p ps) s = .next (State.answered
        (State.settle { s with
          points := s.points.set n { x with
            state := .live, age := 0, candidate := none, confirmCounter := 0, revision := rev } })
        p .ok (bytes16 rev)))
    ∧ (s.Takes .activate p ps → x.state ≠ .draft →
      exec (.activate p ps) s = .next (s.answered p .badState []))
    ∧ (s.Takes .park p ps → x.state ≠ .live →
      exec (.park p ps) s = .next (s.answered p .badState []))
    ∧ (s.Takes .unpark p ps → x.state ≠ .parked →
      exec (.unpark p ps) s = .next (s.answered p .badState []))

/-- RETIRE: FREE, or RETIRING with an in-flight mark, revision one up, staged profile and mark gone; the
point leaves the index, the three lists, the hold table, both last-expired-hold records, both change sets and
the condition list, where an entry removed is followed by one refill: the lowest-numbered other marked point
is given an entry at the tail at its level and peak, unacknowledged, with the next raise sequence, and loses
its mark; every other item stays but for the links of its chain; the engine then takes the ends that the list
removals cause. That the retired record keeps its peak is the model's reading (log entry 15) (R17, R18, R27,
R62, R130, R141). -/
def Obligations.RetireCleansUp : Prop :=
  ∀ (p : CmdPort) (ps : List Byte) (s : State) (n : PointNo), s.Takes .retire p ps → s.Works →
    ps.length = 5 → s.resolve (selectorAt ps 0) = .ok n → s.blockingHold p n = none → s.IndexLaw →
    let x := s.pt n
    ∃ u : State, exec (.retire p ps) s = .next (u.settle.answered p .ok
          (bytes16 (x.revision + 1#16) ++ [if x.inFlight = none then 0x00#8 else 0x04#8]))
      ∧ u = { s with
          points := u.points, heads := u.heads, scan := u.scan, cond := u.cond, holds := u.holds
          changed := u.changed, cmdPorts := u.cmdPorts }
      ∧ u.pt n = { x with
          state := if x.inFlight = none then .free else .retiring
          revision := x.revision + 1#16, next := none, staged := none, unlisted := false }
      ∧ (∀ m, m ≠ n →
          u.pt m = { s.pt m with next := (u.pt m).next, unlisted := (u.pt m).unlisted })
      ∧ u.lookup x.tag = none ∧ (∀ t, t ≠ x.tag → u.lookup t = s.lookup t)
      ∧ u.scan = { s.scan with
          active := s.scan.active.filter fun e => e.point ≠ n
          staged := s.scan.staged.map fun ns : List PointNo => ns.filter fun m => m ≠ n
          prio := s.scan.prio.filter fun e => e.point ≠ n }
      ∧ u.holds = (s.holds.filter fun h => h.point ≠ n)
      ∧ (∀ q, u.cmd q = { s.cmd q with
          lastExpired := if (s.cmd q).lastExpired = some n then none else (s.cmd q).lastExpired })
      ∧ (∀ q, (u.changed.get q).cursor = (s.changed.get q).cursor
          ∧ ∀ m, (u.isChanged q m = true ↔ s.isChanged q m = true ∧ m ≠ n))
      ∧ u.entryOf n = none
      ∧ (s.entryOf n = none → u.cond = s.cond ∧ ∀ m, m ≠ n → (u.pt m).unlisted = (s.pt m).unlisted)
      ∧ ∀ e, s.entryOf n = some e →
        let left := s.cond.list.filter fun f => f.point ≠ n
        ((∀ m, m ≠ n → (s.pt m).unlisted = false) → u.cond = { s.cond with list := left }
          ∧ ∀ m, m ≠ n → (u.pt m).unlisted = false)
        ∧ ∀ k, k ≠ n → (s.pt k).unlisted = true →
          (∀ m, m < k → m ≠ n → (s.pt m).unlisted = false) →
          u.cond = ⟨left ++ [⟨k, s.cond.raiseSeq + 1#32, (s.pt k).level, (s.pt k).peak, false, 0⟩],
              s.cond.raiseSeq + 1#32⟩
            ∧ ∀ m, m ≠ n → (u.pt m).unlisted = if m = k then false else (s.pt m).unlisted

/-- READ_CHANGED returns the members of its port's change set in rising order from one above the cursor
round to the cursor, at most the maximum; they leave that set alone, and the cursor takes the last (R157,
R158, R203). -/
def Obligations.ReadChangedGoesRound : Prop :=
  ∀ (p : CmdPort) (ps : List Byte) (s : State), s.Takes .readChanged p ps → ps.length = 1 →
    let most := numAt ps 0
    let order := (((List.finRange 512).rotate ((s.changed.get p).cursor.val + 1)).filter
      fun n => s.isChanged p n)
    let ns := order.take most
    (most = 0 ∨ 8 < most → exec (.readChanged p ps) s = .next (s.answered p .badParam []))
    ∧ (1 ≤ most → most ≤ 8 →
      ∃ u : State, exec (.readChanged p ps) s = .next (u.answered p .ok
            ([byteOf ns.length] ++ num16 (order.length - ns.length)
              ++ ns.flatMap fun n => pointBytes n ++ bytes32 (s.pt n).tag ++ engBytes (s.pt n).value
                ++ [qualityCode (s.pt n).quality, levelCode (s.pt n).level]))
        ∧ u = { s with changed := u.changed }
        ∧ u.changed.get (otherPort p) = s.changed.get (otherPort p)
        ∧ (u.changed.get p).cursor = ns.getLast?.getD (s.changed.get p).cursor
        ∧ ∀ n, (u.isChanged p n = true ↔ s.isChanged p n = true ∧ n ∉ ns))

/-! ### The access group -/

/-- HOLD: BAD_PARAM for a time of 0, RENEWED for the port's own hold, NO_HOLD_SPACE with 8 records, else
CREATED; RELEASE: OK with the time left and the record gone, EXPIRED once for the hold that ran out last,
else NOT_HELD (R145 to R147, R150, R151, R202). That the HOLD response carries CREATED or RENEWED, the point
and the time in this order is the model's reading (log entry 16), and the unit of 10 µs in which the table
keeps the time is its choice (log entry 6). -/
def Obligations.HoldAndRelease : Prop :=
  ∀ (p : CmdPort) (ps : List Byte) (s : State) (n : PointNo), s.Works → s.HoldLaw →
    s.resolve (selectorAt ps 0) = .ok n →
    let forgotten := s.cmdPorts.set p { s.cmd p with
      lastExpired := if (s.cmd p).lastExpired = some n then none else (s.cmd p).lastExpired }
    let time := numAt ps 5
    (s.Takes .hold p ps → ps.length = 6 → time = 0 →
      exec (.hold p ps) s = .next (s.answered p .badParam []))
    ∧ (s.Takes .hold p ps → ps.length = 6 → time ≠ 0 → ∀ h ∈ s.holds, h.point = n → h.port = p →
      exec (.hold p ps) s = .next (State.answered
        { s with
          holds := s.holds.map fun k => if k.point = n then { k with left := 100 * time } else k
          cmdPorts := forgotten }
        p .ok ([0x01#8] ++ pointBytes n ++ [byteOf time])))
    ∧ (s.Takes .hold p ps → ps.length = 6 → time ≠ 0 → (∀ h ∈ s.holds, h.point ≠ n) →
      (s.holds.length = 8 → exec (.hold p ps) s = .next (s.answered p .noHoldSpace []))
      ∧ (s.holds.length ≠ 8 →
        exec (.hold p ps) s = .next (State.answered
          { s with holds := s.holds ++ [⟨p, n, 100 * time⟩], cmdPorts := forgotten }
          p .ok ([0x00#8] ++ pointBytes n ++ [byteOf time]))))
    ∧ (s.Takes .release p ps → ps.length = 5 → ∀ h ∈ s.holds, h.point = n → h.port = p →
      exec (.release p ps) s = .next (State.answered
        { s with holds := s.holds.filter fun k => k.point ≠ n }
        p .ok [byteOf (reportedTime h.left)]))
    ∧ (s.Takes .release p ps → ps.length = 5 → (∀ h ∈ s.holds, h.point = n → h.port ≠ p) →
      ((s.cmd p).lastExpired = some n →
        exec (.release p ps) s =
          .next (State.answered { s with cmdPorts := forgotten } p .expired []))
      ∧ ((s.cmd p).lastExpired ≠ some n →
        exec (.release p ps) s = .next (s.answered p .notHeld [])))

/-! ### The list group -/

/-- RLIST_INSERT, RLIST_REMOVE and RLIST_CLEAR edit the active list in IDLE and the staged list, made as a
copy if absent, in PASS and GAP; the checks are made against the list concerned, and nothing else is
written (R48, R49, R58, R59). -/
def Obligations.RoutineListEdits : Prop :=
  ∀ (p : CmdPort) (ps : List Byte) (s : State) (n : PointNo), s.Works →
    let k := numAt16 ps 0
    let old := s.scan.active.map Entry.point
    let base := if s.scan.scanner = .idle then old else s.scan.staged.getD old
    let code : Byte := if s.scan.scanner = .idle then 0x00#8 else 0x01#8
    let edited (es : List Entry) (ns : List PointNo) : State :=
      if s.scan.scanner = .idle then { s with scan := { s.scan with active := es } }
      else { s with scan := { s.scan with staged := some ns } }
    (s.Takes .rlistInsert p ps → ps.length = 7 → s.resolve (selectorAt ps 2) = .ok n →
      (base.length < k → exec (.rlistInsert p ps) s = .next (s.answered p .badParam []))
      ∧ (k ≤ base.length → 256 ≤ base.length →
        exec (.rlistInsert p ps) s = .next (s.answered p .listFull []))
      ∧ (k ≤ base.length → base.length < 256 → n ∈ base →
        exec (.rlistInsert p ps) s = .next (s.answered p .duplicate []))
      ∧ (k ≤ base.length → base.length < 256 → n ∉ base →
        exec (.rlistInsert p ps) s = .next (State.answered
          (edited (s.scan.active.take k ++ ⟨n, .none⟩ :: s.scan.active.drop k)
            (base.take k ++ n :: base.drop k))
          p .ok ([code] ++ num16 (base.length + 1)))))
    ∧ (s.Takes .rlistRemove p ps → ps.length = 5 → s.resolve (selectorAt ps 0) = .ok n →
      (n ∉ base → exec (.rlistRemove p ps) s = .next (s.answered p .notListed []))
      ∧ (n ∈ base → base.Nodup →
        exec (.rlistRemove p ps) s = .next (State.answered
          (edited (s.scan.active.filter fun e => e.point ≠ n) (base.filter fun m => m ≠ n))
          p .ok ([code] ++ num16 (base.length - 1)))))
    ∧ (s.Takes .rlistClear p ps → ps.length = 0 →
      exec (.rlistClear p ps) s =
        .next (State.answered (edited [] []) p .ok ([code] ++ num16 0)))

/-- RLIST_READ, PLIST_READ and COND_READ return, in every mode and without a change, the length of the list,
the number returned and the entries from the start position, as many as the maximum and the list allow, with
the codes of R202 for outcomes and levels (R51, R61, R138, R202, R203). -/
def Obligations.ListReadsReport : Prop :=
  ∀ (p : CmdPort) (ps : List Byte) (s : State),
    let outcome : EntryOutcome → Byte
      | .none => 0x00#8
      | .pending => 0x01#8
      | .inFlight => 0x02#8
      | .done => 0x03#8
      | .faulted => 0x04#8
      | .skipped => 0x05#8
      | .cancelled => 0x06#8
    let level : Level → Byte
      | .normal => 0x00#8
      | .lowWarn => 0x01#8
      | .lowTrip => 0x02#8
      | .highWarn => 0x03#8
      | .highTrip => 0x04#8
    (s.Takes .rlistRead p ps → ps.length = 3 →
      let w {α : Type} (l : List α) := (l.drop (numAt ps 1)).take (numAt ps 2)
      let fits := numAt ps 0 ≤ 1 ∧ 1 ≤ numAt ps 2 ∧ numAt ps 2 ≤ 16
      (¬fits → exec (.rlistRead p ps) s = .next (s.answered p .badParam []))
      ∧ (fits → numAt ps 0 = 0 ∨ s.scan.staged = none →
        exec (.rlistRead p ps) s = .next (s.answered p .ok
          ([0x00#8] ++ num16 s.scan.active.length ++ [byteOf (w s.scan.active).length]
            ++ (w s.scan.active).flatMap fun e => pointBytes e.point ++ [outcome e.outcome])))
      ∧ ∀ ns, fits → numAt ps 0 = 1 → s.scan.staged = some ns →
        exec (.rlistRead p ps) s = .next (s.answered p .ok
          ([0x01#8] ++ num16 ns.length ++ [byteOf (w ns).length]
            ++ (w ns).flatMap fun n => pointBytes n ++ [0xFF#8])))
    ∧ (s.Takes .plistRead p ps → ps.length = 2 →
      let w := (s.scan.prio.drop (numAt ps 0)).take (numAt ps 1)
      let fits := numAt ps 0 ≤ 15 ∧ 1 ≤ numAt ps 1 ∧ numAt ps 1 ≤ 16
      (¬fits → exec (.plistRead p ps) s = .next (s.answered p .badParam []))
      ∧ (fits → exec (.plistRead p ps) s = .next (s.answered p .ok
          ([byteOf s.scan.prio.length, byteOf w.length]
            ++ w.flatMap fun e => pointBytes e.point ++ [outcome e.outcome]))))
    ∧ (s.Takes .condRead p ps → ps.length = 2 →
      let w := (s.cond.list.drop (numAt ps 0)).take (numAt ps 1)
      let fits := numAt ps 0 ≤ 63 ∧ 1 ≤ numAt ps 1 ∧ numAt ps 1 ≤ 8
      (¬fits → exec (.condRead p ps) s = .next (s.answered p .badParam []))
      ∧ (fits → exec (.condRead p ps) s = .next (s.answered p .ok
          ([byteOf s.cond.list.length]
            ++ num16 (((List.finRange 512).filter fun n => (s.pt n).unlisted).length)
            ++ [byteOf w.length]
            ++ w.flatMap fun e => pointBytes e.point ++ bytes32 e.seq
              ++ [level e.level, level e.peak, if e.acknowledged then 0x01#8 else 0x00#8, byteOf e.repeats]))))

/-- PLIST_SET makes the priority list hold exactly the given points in the given order, each at NONE; a count
above 16 or a length that does not match is BAD_PARAM, a run in progress BUSY, a number that does not
resolve NO_POINT, a number given twice DUPLICATE (R60). -/
def Obligations.PlistSetReplacesTheList : Prop :=
  ∀ (p : CmdPort) (ps : List Byte) (s : State), s.Takes .plistSet p ps → s.Works → 1 ≤ ps.length →
    let count := numAt ps 0
    let named (i : Nat) := ∃ n : PointNo, n.val = numAt16 ps (1 + 2 * i) ∧ (s.pt n).state.named = true
    (16 < count ∨ ps.length ≠ 1 + 2 * count →
      exec (.plistSet p ps) s = .next (s.answered p .badParam []))
    ∧ (count ≤ 16 → ps.length = 1 + 2 * count →
      (s.scan.prioActive = true → exec (.plistSet p ps) s = .next (s.answered p .busy []))
      ∧ (s.scan.prioActive = false → (∃ i, i < count ∧ ¬named i) →
        exec (.plistSet p ps) s = .next (s.answered p .noPoint []))
      ∧ (s.scan.prioActive = false → (∀ i, i < count → named i) →
        (∃ i j, i < j ∧ j < count ∧ numAt16 ps (1 + 2 * i) = numAt16 ps (1 + 2 * j)) →
        exec (.plistSet p ps) s = .next (s.answered p .duplicate []))
      ∧ ∀ ns : List PointNo, s.scan.prioActive = false → ns.length = count → ns.Nodup →
        (∀ (i : Nat) (n : PointNo), ns[i]? = some n → n.val = numAt16 ps (1 + 2 * i)
          ∧ (s.pt n).state.named = true) →
        exec (.plistSet p ps) s = .next (State.answered
          { s with scan := { s.scan with prio := ns.map fun n => ⟨n, .none⟩ } } p .ok []))

/-! ### The scan group -/

/-- SCAN_START in ACTIVE and IDLE: the mode, with CYCLIC the period timer, and a pass that sets every entry
PENDING and drives CYM low; SCAN_STOP by scanner state; SKIP_PASS in PASS withdraws what is open and ends the
pass; each is followed by what the engine then finds to do (R63 to R65, R72, R73). That a SCAN_STOP in GAP, whose
promotion may change a ROUTE group, is followed by an examination at the cursor of a priority run is the
model's reading (log entry 14). -/
def Obligations.ScanStartStopSkip : Prop :=
  ∀ (p : CmdPort) (ps : List Byte) (s : State),
    (s.Takes .scanStart p ps → s.run.mode = .active → ps.length = 1 →
      let c := s.scan
      let begun (m : ScanMode) (timer : Option Nat) : State := { s with scan := { c with
        scanner := .pass, scanMode := m, late := false, periodTimer := timer, cym := false
        active := c.active.map fun e => { e with outcome := .pending } } }
      (1 < numAt ps 0 → exec (.scanStart p ps) s = .next (s.answered p .badParam []))
      ∧ (numAt ps 0 ≤ 1 → c.scanner ≠ .idle →
        exec (.scanStart p ps) s = .next (s.answered p .busy []))
      ∧ (numAt ps 0 = 0 → c.scanner = .idle → exec (.scanStart p ps) s =
          .next ((begun .oneShot c.periodTimer).settle.answered p .ok (bytes16 c.passCounter)))
      ∧ (numAt ps 0 = 1 → c.scanner = .idle → exec (.scanStart p ps) s =
          .next ((begun .cyclic (some (10 * c.period))).settle.answered p .ok
            (bytes16 c.passCounter))))
    ∧ (s.Takes .scanStop p ps → s.Works → ps.length = 0 →
      (s.scan.scanner = .pass → exec (.scanStop p ps) s = .next (State.answered
        { s with scan := { s.scan with stopRequested := true } } p .ok [0x01#8]))
      ∧ (s.scan.scanner = .idle → exec (.scanStop p ps) s = .next (s.answered p .ok [0x00#8]))
      ∧ (s.scan.scanner = .gap → ∃ v w : State, s.PromotesTo v
        ∧ w = { v with scan := { s.scan with
            scanner := .idle, stopRequested := false, late := false, periodTimer := none
            staged := none
            active := (match s.scan.staged with
              | some ns => ns.map fun n => ⟨n, .none⟩
              | none => s.scan.active) } }
        ∧ exec (.scanStop p ps) s = .next (w.settle.answered p .ok [0x00#8])))
    ∧ (s.Takes .skipPass p ps → s.Works → ps.length = 0 →
      (s.scan.scanner ≠ .pass → exec (.skipPass p ps) s = .next (s.answered p .badState []))
      ∧ (s.scan.scanner = .pass → s.RecordLaw → s.FlightLaw → ∃ v : State, s.WithdrawsTo v .routine
        ∧ exec (.skipPass p ps) s = .next (v.settle.answered p .ok
            (num16 ((s.scan.active.filter fun e =>
              e.outcome = .pending ∨ e.outcome = .inFlight).length)))))

/-- SCAN_HALT in QUIET and ACTIVE, in any scanner state, halts both sides of the scan engine and is answered OK;
afterwards the scanner is IDLE, no run is in progress and the period timer has stopped (R74, R187). -/
def Obligations.ScanHaltEndsEverything : Prop :=
  ∀ (p : CmdPort) (ps : List Byte) (s : State), s.Takes .scanHalt p ps → s.Works → ps.length = 0 →
    s.ListLaw → s.RecordLaw → s.FlightLaw →
    ∃ t : State, s.HaltsTo t ∧ exec (.scanHalt p ps) s = .next (t.answered p .ok [])
      ∧ t.scan.scanner = .idle ∧ t.scan.prioActive = false ∧ t.scan.periodTimer = none

/-- A priority request, by RUN_PRIORITY or by an edge on PTRIG with the trigger enable on in ACTIVE, starts a
run, or holds a rerun, or is lost; any other edge is ignored (R76 to R78). -/
def Obligations.PriorityRequests : Prop :=
  ∀ (p : CmdPort) (ps : List Byte) (s : State),
    let c := s.scan
    let started : State := State.settle { s with scan := { c with
      prioActive := true, prio := c.prio.map fun e => { e with outcome := .pending } } }
    let held : State := { s with scan := { c with rerun := true } }
    let lost : State := { s with attn := { s.attn with prioLost := true } }
    (s.Takes .runPriority p ps → s.run.mode = .active → ps.length = 0 →
      (c.prioActive = false →
        exec (.runPriority p ps) s = .next (started.answered p .ok [0x00#8]))
      ∧ (c.prioActive = true → c.rerun = false →
        exec (.runPriority p ps) s = .next (held.answered p .ok [0x01#8]))
      ∧ (c.prioActive = true → c.rerun = true →
        exec (.runPriority p ps) s = .next (lost.answered p .ok [0x02#8])))
    ∧ (s.heldInReset = false → c.trigger = true → s.run.mode = .active →
      (c.prioActive = false → exec .ptrig s = .next started)
      ∧ (c.prioActive = true → c.rerun = false → exec .ptrig s = .next held)
      ∧ (c.prioActive = true → c.rerun = true → exec .ptrig s = .next lost))
    ∧ (c.trigger = false ∨ s.run.mode ≠ .active → exec .ptrig s = .next s)

/-- ABORT_POINT withdraws the conversion of a point whose port is BUSY and whose entry is IN_FLIGHT: the
entry is CANCELLED, the port sends CANCEL and goes CANCELLING, and the engine goes on; in every other case
it is BAD_STATE (R75, R92). -/
def Obligations.AbortPointWithdrawsOneConversion : Prop :=
  ∀ (p : CmdPort) (ps : List Byte) (s : State) (n : PointNo), s.Takes .abortPoint p ps → s.Works →
    ps.length = 5 → s.resolve (selectorAt ps 0) = .ok n → s.RecordLaw →
    (∀ i r k, (s.port i).phase = .busy r k → r.point = n →
      ⟨n, .inFlight⟩ ∈ s.scan.entries r.origin →
      exec (.abortPoint p ps) s = .next (State.answered
        (State.settle { s with
          ports := s.ports.set i { s.port i with
            phase := .cancelling { r with cancelled := true } r.timerLength
            sent := (s.port i).sent ++ [.cancel r.seq] }
          scan := s.scan.setEntries r.origin ((s.scan.entries r.origin).map fun e =>
            if e.point = n ∧ e.outcome = .inFlight then { e with outcome := .cancelled } else e) })
        p .ok [originCode r.origin, byteOf i.val]))
    ∧ ((∀ i r k, (s.port i).phase = .busy r k → r.point = n →
        ⟨n, .inFlight⟩ ∉ s.scan.entries r.origin) →
      exec (.abortPoint p ps) s = .next (s.answered p .badState []))

/-- SCAN_CONFIG writes period and trigger enable, ATTN_MASK the mask, CLEAR_FLAGS clears the sticky flags it
names; an undefined value is BAD_PARAM, and nothing else is written (R80, R178, R179, R202). -/
def Obligations.ConfigurationWrites : Prop :=
  ∀ (p : CmdPort) (ps : List Byte) (s : State), s.Works →
    (s.Takes .scanConfig p ps → ps.length = 3 →
      (numAt16 ps 0 = 0 ∨ 1 < numAt ps 2 →
        exec (.scanConfig p ps) s = .next (s.answered p .badParam []))
      ∧ (numAt16 ps 0 ≠ 0 → numAt ps 2 ≤ 1 →
        exec (.scanConfig p ps) s = .next (State.answered
          { s with scan := { s.scan with
            period := numAt16 ps 0, trigger := decide (numAt ps 2 = 1) } } p .ok [])))
    ∧ (s.Takes .attnMask p ps → ps.length = 1 →
      (128 ≤ numAt ps 0 → exec (.attnMask p ps) s = .next (s.answered p .badParam []))
      ∧ (numAt ps 0 < 128 → exec (.attnMask p ps) s = .next (State.answered
          { s with attn := { s.attn with mask := BitVec.ofNat 7 (numAt ps 0) } } p .ok
          [byteOf s.attn.mask.toNat, byteAt ps 0])))
    ∧ (s.Takes .clearFlags p ps → ps.length = 1 →
      (128 ≤ numAt ps 0 → exec (.clearFlags p ps) s = .next (s.answered p .badParam []))
      ∧ (numAt ps 0 < 128 → ∃ t : State,
        t = { s with attn := { s.attn with
            overrun := s.attn.overrun && !(byteAt ps 0).getLsbD 3
            prioDone := s.attn.prioDone && !(byteAt ps 0).getLsbD 4
            prioLost := s.attn.prioLost && !(byteAt ps 0).getLsbD 5
            holdExpired := s.attn.holdExpired && !(byteAt ps 0).getLsbD 6 } }
        ∧ exec (.clearFlags p ps) s = .next (t.answered p .ok [byteOf t.sources.toNat])))

/-- STATUS, SCAN_STATUS and PORT_STATUS report the items their rules list, in every mode; they change
nothing, but that PORT_STATUS with CLEAR sets the stray count it reported to 0; modes, scanner and port states,
scan modes and origins carry the codes of R202 (R65, R81, R103, R176, R202, R203).
That SCAN_STATUS carries 0 as the length of a staged routine list that does not exist is the model's choice
(log entry 11). -/
def Obligations.StatusReadsReport : Prop :=
  ∀ (p : CmdPort) (ps : List Byte) (s : State),
    let c := s.scan
    let flag (b : Bool) : Byte := if b then 0x01#8 else 0x00#8
    let mode : Byte := match s.run.mode with
      | .quiet => 0x00#8
      | .waking => 0x01#8
      | .active => 0x02#8
      | .quiescing => 0x03#8
    let scanner : Byte := match c.scanner with
      | .idle => 0x00#8
      | .pass => 0x01#8
      | .gap => 0x02#8
    let phase : Phase → Byte
      | .offline => 0x00#8
      | .probing _ => 0x01#8
      | .idle => 0x02#8
      | .busy _ _ => 0x03#8
      | .cancelling _ _ => 0x04#8
      | .faulted => 0x05#8
    let open' (es : List Entry) (o : EntryOutcome) := (es.filter fun e => e.outcome = o).length
    (s.Takes .status p ps → ps.length = 0 →
      exec (.status p ps) s = .next (s.answered p .ok
        ([mode, flag s.run.wakeGuard.isSome, scanner,
            byteOf (c.prioActive.toNat + 2 * c.rerun.toNat + 4 * s.attn.prioDone.toNat
              + 8 * s.attn.prioLost.toNat),
            byteOf s.sources.toNat, byteOf s.attn.mask.toNat, flag (!s.attnLow)]
          ++ num16 (((List.finRange 512).filter fun n => (s.pt n).state ≠ .free).length)
          ++ [byteOf s.cond.list.length, byteOf s.holds.length] ++ bytes16 c.passCounter)))
    ∧ (s.Takes .scanStatus p ps → ps.length = 0 →
      exec (.scanStatus p ps) s = .next (s.answered p .ok
        ([scanner, if c.scanMode = .cyclic then 0x01#8 else 0x00#8, flag c.stopRequested, flag c.late,
            flag s.attn.overrun, flag c.periodTimer.isSome]
          ++ num16 c.period ++ [flag c.trigger] ++ bytes16 c.passCounter
          ++ num16 c.active.length
          ++ num16 (((c.active.map Entry.outcome).findIdx? fun o => o = .pending).getD 256)
          ++ num16 (open' c.active .pending) ++ [byteOf (open' c.active .inFlight)]
          ++ [flag c.staged.isSome] ++ num16 ((c.staged.map List.length).getD 0)
          ++ [flag c.prioActive, flag c.rerun, flag s.attn.prioDone,
            flag s.attn.prioLost, byteOf c.prio.length,
            byteOf (((c.prio.map Entry.outcome).findIdx? fun o => o = .pending).getD 16),
            byteOf (open' c.prio .pending), byteOf (open' c.prio .inFlight), flag c.cym])))
    ∧ (s.Takes .portStatus p ps → ps.length = 2 →
      (3 < numAt ps 0 ∨ 1 < numAt ps 1 →
        exec (.portStatus p ps) s = .next (s.answered p .badParam []))
      ∧ ∀ i : PortNo, i.val = numAt ps 0 → numAt ps 1 ≤ 1 →
        let x := s.port i
        exec (.portStatus p ps) s = .next (State.answered
          (if numAt ps 1 = 1 then { s with ports := s.ports.set i { x with strayCount := 0 } } else s)
          p .ok
          ([phase x.phase, flag x.enable, byteOf x.timeout, byteOf x.timeoutCount,
              byteOf x.strayCount,
              (match x.cls with
                | some k => byteOf k.val
                | none => 0xFF#8), flag x.absent]
            ++ (match x.phase.record with
              | some r => [0x01#8] ++ pointBytes r.point
                  ++ [byteOf r.seq.toNat, if r.origin = .priority then 0x01#8 else 0x00#8, flag r.superseded,
                    flag r.cancelled]
              | none => [0x00#8, 0x00#8, 0x00#8, 0x00#8, 0x00#8, 0x00#8, 0x00#8])
            ++ [byteOf x.seqCounter.toNat])))

/-- IDENTIFY answers B7h, 5120h and 1 on both ports, in every mode and in every state, and changes nothing
(R177). -/
def Obligations.IdentifyIsFixed : Prop :=
  ∀ (p : CmdPort) (s : State), s.Takes .identify p [] →
    exec (.identify p []) s = .next (s.answered p .ok [0xB7#8, 0x51#8, 0x20#8, 0x01#8])

/-! ### The scan engine within an event -/

/-- The engine's part of an event is its moves one after another until none is left (R65, R67). -/
def Obligations.SettleTakesEveryMove : Prop :=
  ∀ s : State, s.settle.Settled ∧ (s.engineMove = none → s.settle = s)
    ∧ ∀ t, s.engineMove = some t → s.settle = t.settle

/-- The table of R65 at a cursor in force: a point that is not LIVE is SKIPPED; with its port OFFLINE or
FAULTED the entry is FAULTED and the point takes PORT_FAULT and joins both change sets; with its port IDLE and
no in-flight mark it is dispatched with the next seq; else it waits (R65, R66, R88, R89, R111). -/
def Obligations.CursorFollowsTheDispatchTable : Prop :=
  ∀ (s : State) (o : Origin) (pre post : List Entry) (n : PointNo),
    ¬(s.scan.scanner = .pass ∧ allClosed s.scan.active) →
    ¬(s.scan.prioActive = true ∧ allClosed s.scan.prio) →
    (s.scan.prioActive = true ∧ o = .priority
      ∨ s.scan.prioActive = false ∧ s.scan.scanner = .pass ∧ o = .routine) →
    s.scan.entries o = pre ++ ⟨n, .pending⟩ :: post → (∀ e ∈ pre, e.outcome ≠ .pending) →
    let x := s.pt n
    let i := x.active.route.port
    let resolved (out : EntryOutcome) : Scan := s.scan.setEntries o (pre ++ ⟨n, out⟩ :: post)
    (x.state ≠ .live → s.engineMove = some { s with scan := resolved .skipped })
    ∧ (x.state = .live → ((s.port i).phase = .offline ∨ (s.port i).phase = .faulted) →
      s.engineMove = some { s with
        scan := resolved .faulted
        points := s.points.set n { x with quality := .portFault }
        changed := s.changed.map fun c => { c with members := c.members.set n true } })
    ∧ (x.state = .live → (s.port i).phase = .idle → x.inFlight = none →
      s.engineMove = some { s with
        scan := resolved .inFlight
        points := s.points.set n { x with inFlight := some i }
        ports := s.ports.set i { s.port i with
          phase := .busy ⟨n, (s.port i).seqCounter + 1#4, o, false, false, (s.port i).timeout⟩
            (s.port i).timeout
          seqCounter := (s.port i).seqCounter + 1#4
          sent := (s.port i).sent
            ++ [.convert ((s.port i).seqCounter + 1#4) x.active.route.channel
              x.active.route.settle] } })
    ∧ (x.state = .live → (s.port i).phase = .idle → x.inFlight ≠ none → s.engineMove = none)
    ∧ (x.state = .live → ((s.port i).phase.draining = true ∨ (s.port i).phase.isProbing = true) →
      s.engineMove = none)

/-- A pass without an open entry ends at once: promotion, aging of the listed LIVE points, pass counter, CYM,
next scanner state; a run without one ends with prio-done and starts a held rerun or stops (R50, R67 to R69,
R79, R82, R112). That a pass-end due at the same event is taken before the run end is the model's reading (log
entry 14). -/
def Obligations.PassAndRunEnds : Prop :=
  ∀ s : State,
    (s.scan.scanner = .pass → allClosed s.scan.active → (s.scan.active.map Entry.point).Nodup →
      ∃ u, s.engineMove = some u ∧ s.EndsPassTo u false)
    ∧ (¬(s.scan.scanner = .pass ∧ allClosed s.scan.active) → s.scan.prioActive = true →
      allClosed s.scan.prio →
      s.engineMove = some { s with
        attn := { s.attn with prioDone := true }
        scan := if s.scan.rerun then
          { s.scan with
            rerun := false, prio := s.scan.prio.map fun e => { e with outcome := .pending } }
          else { s.scan with prioActive := false } })

/-! ### The value unit and the condition unit -/

/-- Scaling: V is floor(code × G / 4096) + F saturated to 24 bits, with the bounds and the examples of R106;
a result in range writes it by the SCALE group of the active profile. -/
def Obligations.ScalingFollowsTheRule : Prop :=
  (∀ (c : Scale) (code : BitVec 16), -32768 ≤ c.gain → c.gain ≤ 32767 → inEngRange c.offset →
    let product : Int := code.toNat * c.gain
    scaled c code = max (-8388608) (min 8388607 (product / 4096 + c.offset))
      ∧ (-2147450880 ≤ product ∧ product ≤ 2147385345)
      ∧ (-524280 ≤ product / 4096 ∧ product / 4096 ≤ 524264)
      ∧ (c.gain = 4096 → product / 4096 = code.toNat)
      ∧ (c.gain = 0 → scaled c code = c.offset)
      ∧ (c.gain < 0 → ∀ code' : BitVec 16, code.toNat ≤ code'.toNat →
          scaled c code' ≤ scaled c code))
  ∧ (scaled ⟨6144, -2000, 0⟩ 2000#16 = 1000 ∧ scaled ⟨6144, -2000, 0⟩ 2001#16 = 1001
      ∧ scaled ⟨-2048, 0, 0⟩ 3#16 = -2 ∧ scaled ⟨4096, 100, 0⟩ 40000#16 = 40100
      ∧ scaled ⟨32767, 8000000, 0⟩ 65535#16 = 8388607
      ∧ scaled ⟨-32768, -8000000, 0⟩ 65535#16 = -8388608)
  ∧ ∀ (code : BitVec 16) (x : Point),
      (graded code .inRange x).value
        = smoothed x.active.scale x.seeded x.value (scaled x.active.scale code)

/-- Smoothing: V itself at weight 0 or unseeded, else a floored 2^k-th part of the way, which lies between the
old value and V, falls until it equals V, and rises no further than to less than 2^k below it (R107). -/
def Obligations.SmoothingApproachesTheSample : Prop :=
  ∀ (c : Scale) (seeded : Bool) (old v : Int),
    (c.weight = 0 ∨ seeded = false → smoothed c seeded old v = v)
    ∧ (c.weight ≠ 0 → seeded = true →
      smoothed c seeded old v = old + (v - old) / 2 ^ c.weight.val
      ∧ (old ≤ v → old ≤ smoothed c seeded old v ∧ smoothed c seeded old v ≤ v)
      ∧ (v ≤ old → v ≤ smoothed c seeded old v ∧ smoothed c seeded old v ≤ old)
      ∧ (v < old → smoothed c seeded old v ≤ old - 1)
      ∧ (old ≤ v → (smoothed c seeded old v = old ↔ v - old < 2 ^ c.weight.val)))
    ∧ ∀ (code : BitVec 16) (x : Point), (graded code .inRange x).seeded = true
      ∧ (graded code .inRange x).value
        = smoothed x.active.scale x.seeded x.value (scaled x.active.scale code)

/-- The indicated level: the first of HIGH_TRIP, HIGH_WARN, LOW_TRIP, LOW_WARN whose limit is present and met,
a limit at or beyond which the level stands relaxed by the hysteresis, else NORMAL; OVER and UNDER take the
outermost limit of their side, or the current level (R122 to R124). -/
def Obligations.BandsIndicateALevel : Prop :=
  ∀ (x : Point) (code : BitVec 16),
    let b := x.active.band
    let v := scaled x.active.scale code
    let clip (w : Int) : Int := max (-8388608) (min 8388607 w)
    let relaxed (held : Bool) (w : Int) (d : Int) : Int := if held then clip (w + d) else w
    let highTrip := ∃ w, b.hiTrip = some w ∧ relaxed (x.level = .highTrip) w (-b.hysteresis) ≤ v
    let highWarn := ∃ w, b.hiWarn = some w
      ∧ relaxed (x.level = .highWarn ∨ x.level = .highTrip) w (-b.hysteresis) ≤ v
    let lowTrip := ∃ w, b.loTrip = some w ∧ v ≤ relaxed (x.level = .lowTrip) w b.hysteresis
    let lowWarn := ∃ w, b.loWarn = some w
      ∧ v ≤ relaxed (x.level = .lowWarn ∨ x.level = .lowTrip) w b.hysteresis
    (highTrip → indicatedBy code .inRange x = .highTrip)
    ∧ (¬highTrip → highWarn → indicatedBy code .inRange x = .highWarn)
    ∧ (¬highTrip → ¬highWarn → lowTrip → indicatedBy code .inRange x = .lowTrip)
    ∧ (¬highTrip → ¬highWarn → ¬lowTrip → lowWarn → indicatedBy code .inRange x = .lowWarn)
    ∧ (¬highTrip → ¬highWarn → ¬lowTrip → ¬lowWarn → indicatedBy code .inRange x = .normal)
    ∧ indicatedBy code .over x
      = (if b.hiTrip ≠ none then .highTrip else if b.hiWarn ≠ none then .highWarn else x.level)
    ∧ indicatedBy code .under x
      = if b.loTrip ≠ none then .lowTrip else if b.loWarn ≠ none then .lowWarn else x.level

/-- A level change of point `n` and the condition list: a new entry at the tail with the next raise sequence,
or the unlisted mark when 64 stand; a marked point by its class; an entry updated, its peak raised by rank,
re-armed by rank, and removed at NORMAL if acknowledged and NOTIFY. A removal closes the list up and sets the
point's peak to NORMAL; one refill follows: the lowest-numbered marked point is given an entry at the tail at
its level and peak, unacknowledged, with the next raise sequence, and loses its mark (R127 to R133). -/
def Obligations.ConditionListFollowsLevels : Prop :=
  (∀ (s : State) (n : PointNo) (new : Level), s.ConditionListLaw → s.MarkLaw →
    let x := s.pt n
    let worse (a b : Level) := if a.rank < b.rank then b else a
    let y : Point := { x with level := new, candidate := none, confirmCounter := 0 }
    let wrote (z : Point) (c : CondUnit) : State := { s with points := s.points.set n z, cond := c }
    ((∀ e ∈ s.cond.list, e.point ≠ n) → x.unlisted = false →
      (new = .normal → s.levelChange n new = wrote y s.cond)
      ∧ (new ≠ .normal → s.cond.list.length < 64 →
        s.levelChange n new = wrote { y with peak := new }
          ⟨s.cond.list ++ [⟨n, s.cond.raiseSeq + 1#32, new, new, false, 0⟩], s.cond.raiseSeq + 1#32⟩)
      ∧ (new ≠ .normal → s.cond.list.length = 64 →
        s.levelChange n new = wrote { y with unlisted := true, peak := worse x.peak new } s.cond))
    ∧ (x.unlisted = true →
      (new ≠ .normal → s.levelChange n new = wrote { y with peak := worse x.peak new } s.cond)
      ∧ (new = .normal → x.active.policy.cls = .notify →
        s.levelChange n new = wrote { y with unlisted := false, peak := .normal } s.cond)
      ∧ (new = .normal → x.active.policy.cls = .latch → s.levelChange n new = wrote y s.cond))
    ∧ ∀ pre post e, s.cond.list = pre ++ e :: post → e.point = n →
      let e' : CondEntry := { e with
        level := new
        peak := worse e.peak new
        acknowledged := if e.level.rank < new.rank then false else e.acknowledged
        repeats := if e.level.rank < new.rank then min 15 (e.repeats + 1) else e.repeats }
      let u := wrote { y with peak := worse x.peak new } { s.cond with list := pre ++ e' :: post }
      s.levelChange n new =
        if new = .normal ∧ e.acknowledged = true ∧ x.active.policy.cls = .notify then u.removeEntry n
        else u)
  ∧ ∀ (s : State) (n : PointNo), s.ConditionListLaw → s.MarkLaw → (s.entryOf n).isSome = true →
    let left := s.cond.list.filter fun e => e.point ≠ n
    let z : Point := { s.pt n with peak := .normal }
    ((∀ m, (s.pt m).unlisted = false) →
      s.removeEntry n = { s with points := s.points.set n z, cond := { s.cond with list := left } })
    ∧ ∀ m, (s.pt m).unlisted = true → (∀ k, k < m → (s.pt k).unlisted = false) →
      s.removeEntry n = { s with
        points := (s.points.set n z).set m { s.pt m with unlisted := false }
        cond := ⟨left ++ [⟨m, s.cond.raiseSeq + 1#32, (s.pt m).level, (s.pt m).peak, false, 0⟩],
          s.cond.raiseSeq + 1#32⟩ }

/-- ACK acknowledges an entry and removes it if it is NOTIFY at NORMAL; COND_CLEAR removes an acknowledged
entry at NORMAL, of either class, and is else BAD_STATE; without an entry both are NOT_LISTED (R135, R137). -/
def Obligations.AckAndCondClear : Prop :=
  ∀ (p : CmdPort) (ps : List Byte) (s : State) (n : PointNo), s.Works → ps.length = 5 →
    s.resolve (selectorAt ps 0) = .ok n → s.ConditionListLaw →
    (s.Takes .ack p ps → (∀ e ∈ s.cond.list, e.point ≠ n) →
      exec (.ack p ps) s = .next (s.answered p .notListed []))
    ∧ (s.Takes .condClear p ps → (∀ e ∈ s.cond.list, e.point ≠ n) →
      exec (.condClear p ps) s = .next (s.answered p .notListed []))
    ∧ ∀ pre post e, s.cond.list = pre ++ e :: post → e.point = n →
      let leaves := e.level = .normal ∧ (s.pt n).active.policy.cls = .notify
      (s.Takes .ack p ps → leaves →
        exec (.ack p ps) s =
          .next ((s.removeEntry n).answered p .ok (bytes32 e.seq ++ [0x01#8])))
      ∧ (s.Takes .ack p ps → ¬leaves →
        exec (.ack p ps) s = .next (State.answered
          { s with cond := { s.cond with list := pre ++ { e with acknowledged := true } :: post } }
          p .ok (bytes32 e.seq ++ [0x00#8])))
      ∧ (s.Takes .condClear p ps → e.acknowledged = true → e.level = .normal →
        exec (.condClear p ps) s = .next ((s.removeEntry n).answered p .ok (bytes32 e.seq)))
      ∧ (s.Takes .condClear p ps → (e.acknowledged = false ∨ e.level ≠ .normal) →
        exec (.condClear p ps) s = .next (s.answered p .badState []))

/-- ACK_UPTO acknowledges the entries from the head to the first that carries the raise sequence, removes of
them the NOTIFY ones at NORMAL, and one refill follows each removal; it answers how many it acknowledged anew
and how many it removed, and is NOT_LISTED where no entry carries the number (R127, R130, R133, R136). -/
def Obligations.AckUptoWalksFromTheHead : Prop :=
  ∀ (p : CmdPort) (ps : List Byte) (s : State), s.Takes .ackUpto p ps → s.Works → ps.length = 4 →
    s.ConditionListLaw → s.MarkLaw →
    ((∀ e ∈ s.cond.list, e.seq ≠ wordAt32 ps 0) →
      exec (.ackUpto p ps) s = .next (s.answered p .notListed []))
    ∧ ∀ pre post e, s.cond.list = pre ++ e :: post → e.seq = wordAt32 ps 0 →
      (∀ f ∈ pre, f.seq ≠ wordAt32 ps 0) →
      let range := pre ++ [e]
      let goes (f : CondEntry) : Bool :=
        f.level == .normal && (s.pt f.point).active.policy.cls == .notify
      let gone := range.filter goes
      let marked := (List.finRange 512).filter fun m => (s.pt m).unlisted
      let taken := marked.take gone.length
      ∃ (u : State) (added : List CondEntry),
        exec (.ackUpto p ps) s = .next (u.answered p .ok
            [byteOf ((range.filter fun f => f.acknowledged = false).length), byteOf gone.length])
          ∧ u = { s with points := u.points, cond := u.cond }
          ∧ u.cond.list = ((range.filter fun f => !goes f).map fun f => { f with acknowledged := true })
              ++ post ++ added
          ∧ added.map CondEntry.point = taken
          ∧ (∀ f ∈ added, f.level = (s.pt f.point).level ∧ f.peak = (s.pt f.point).peak
              ∧ f.acknowledged = false ∧ f.repeats = 0)
          ∧ (∀ k f, added[k]? = some f → f.seq = s.cond.raiseSeq + BitVec.ofNat 32 (k + 1))
          ∧ u.cond.raiseSeq = s.cond.raiseSeq + BitVec.ofNat 32 added.length
          ∧ ∀ m, u.pt m = { s.pt m with
              peak := if m ∈ gone.map CondEntry.point then .normal else (s.pt m).peak
              unlisted := if m ∈ taken then false else (s.pt m).unlisted }

/-! ### The sample ports -/

/-- PORT_CONFIG writes T and the enable: turned off a port in IDLE, FAULTED or PROBING goes OFFLINE, turned
on in ACTIVE an OFFLINE port is probed, and off for a port in BUSY or CANCELLING is BUSY; PORT_RESTORE probes an
enabled port in OFFLINE or FAULTED, and is else BAD_STATE; the engine then looks at its cursors again (R97,
R100, R101). -/
def Obligations.PortConfigAndRestore : Prop :=
  ∀ (p : CmdPort) (ps : List Byte) (s : State),
    let put (i : PortNo) (x : SamplePort) : State := { s with ports := s.ports.set i x }
    let probed (x : SamplePort) : SamplePort :=
      { x with phase := .probing 200, timeoutCount := 0, sent := x.sent ++ [.probe] }
    (s.Takes .portConfig p ps → s.Works → ps.length = 3 →
      (3 < numAt ps 0 ∨ 1 < numAt ps 1 ∨ numAt ps 2 = 0 →
        exec (.portConfig p ps) s = .next (s.answered p .badParam []))
      ∧ ∀ i : PortNo, i.val = numAt ps 0 → numAt ps 2 ≠ 0 →
        let x := s.port i
        let on : SamplePort := { x with enable := true, timeout := numAt ps 2 }
        let off : SamplePort := { x with enable := false, timeout := numAt ps 2, phase := .offline }
        let done (u : State) := exec (.portConfig p ps) s =
          .next (u.settle.answered p .ok [phaseCode (u.settle.port i).phase])
        (numAt ps 1 = 0 → x.phase.draining = true →
          exec (.portConfig p ps) s = .next (s.answered p .busy []))
        ∧ (numAt ps 1 = 0 → x.phase.draining = false → done (put i off))
        ∧ (numAt ps 1 = 1 → x.enable = false → s.run.mode = .active → x.phase = .offline →
          done (put i (probed on)))
        ∧ (numAt ps 1 = 1 → ¬(x.enable = false ∧ s.run.mode = .active ∧ x.phase = .offline) →
          done (put i on)))
    ∧ (s.Takes .portRestore p ps → s.run.mode = .active → ps.length = 1 →
      (3 < numAt ps 0 → exec (.portRestore p ps) s = .next (s.answered p .badParam []))
      ∧ ∀ i : PortNo, i.val = numAt ps 0 →
        let ready := (s.port i).enable = true
          ∧ ((s.port i).phase = .offline ∨ (s.port i).phase = .faulted)
        (ready → exec (.portRestore p ps) s =
          .next ((put i (probed (s.port i))).settle.answered p .ok []))
        ∧ (¬ready → exec (.portRestore p ps) s = .next (s.answered p .badState [])))

/-- A RESULT with the record's seq taken in BUSY: the port goes IDLE with its count at 0 and the record ends.
For a LIVE point not superseded, raw takes the code, a result in range is scaled, smoothed and graded GOOD and
any other graded OVERRANGE, the indicated level is confirmed, a change of value, quality or level joins both
change sets, and the entry is DONE; else the result is discarded and the entry SKIPPED; then the engine goes
on (R67, R90, R105, R109, R110, R125). -/
def Obligations.ResultIsTaken : Prop :=
  ∀ (i : PortNo) (seq : Seq) (code : BitVec 16) (range : RangeFlag) (s : State) (r : ConvRecord) (k : Nat),
    s.heldInReset = false → (s.port i).phase = .busy r k → r.seq = seq →
    let n := r.point
    let x := s.pt n
    let ended (y : Point) (out : EntryOutcome) : State := { s with
      ports := s.ports.set i { s.port i with phase := .idle, timeoutCount := 0 }
      points := s.points.set n { y with inFlight := none }
      scan := s.scan.setEntries r.origin ((s.scan.entries r.origin).map fun e =>
        if e.point = n ∧ e.outcome = .inFlight then { e with outcome := out } else e) }
    ((r.superseded = true ∨ x.state ≠ .live) →
      exec (.result i seq code range) s = .next
        (ended { x with state := if x.state = .retiring then .free else x.state } .skipped).settle)
    ∧ (r.superseded = false → x.state = .live → 1 ≤ x.active.policy.confirm →
      let y : Point :=
        if range = .inRange then
          { x with
            raw := code, quality := .good, age := 0, seeded := true
            value := smoothed x.active.scale x.seeded x.value (scaled x.active.scale code) }
        else { x with raw := code, quality := .overrange }
      let ind := indicatedBy code range x
      let count := if x.candidate = some ind then
          (if x.confirmCounter < x.active.policy.confirm then x.confirmCounter + 1
            else x.confirmCounter)
        else 1
      ∃ w : State,
        (ind = x.level →
          w = ended { y with candidate := none, confirmCounter := 0 } .done)
        ∧ (ind ≠ x.level → count < x.active.policy.confirm →
          w = ended { y with candidate := some ind, confirmCounter := count } .done)
        ∧ (ind ≠ x.level → x.active.policy.confirm ≤ count → w = (ended y .done).levelChange n ind)
        ∧ exec (.result i seq code range) s = .next (State.settle
          (if y.value ≠ x.value ∨ y.quality ≠ x.quality ∨ (w.pt n).level ≠ x.level then
            { w with changed := w.changed.map fun c => { c with members := c.members.set n true } }
          else w)))

/-- In CANCELLING a RESULT or CANCEL_ACK with the record's seq releases the port to IDLE, or to FAULTED at a
count of 3, and the expiry of the timer leaves it FAULTED; the record ends, a RETIRING point becomes FREE and
nothing else is written. In QUIESCING the last such end orders every port OFFLINE and the mode becomes QUIET;
in any other mode the engine looks at its cursors again (R19, R93, R94, R192). An answer that is taken first leaves no
expiry in CANCELLING (R99). That an expiry queued where no timer has run out in CANCELLING changes nothing is the
model's choice (log entries 2 and 5). -/
def Obligations.CancellingEnds : Prop :=
  ∀ (i : PortNo) (code : BitVec 16) (range : RangeFlag) (s : State) (r : ConvRecord) (k : Nat) (c : Instr),
    s.heldInReset = false →
    let answer := c = .result i r.seq code range ∨ c = .cancelAck i r.seq
    ((∀ r', (s.port i).phase ≠ .cancelling r' 0) → exec (.cancelTimerExpiry i) s = .next s)
    ∧ ((s.port i).phase = .cancelling r k → answer →
      ∃ t, exec c s = .next t ∧ exec (.cancelTimerExpiry i) t = .next t)
    ∧ ((s.port i).phase = .cancelling r k → answer ∨ c = .cancelTimerExpiry i ∧ k = 0 →
    let x := s.pt r.point
    let u : State := { s with
      ports := s.ports.set i { s.port i with
        phase := if c ≠ .cancelTimerExpiry i ∧ (s.port i).timeoutCount < 3 then .idle else .faulted }
      points := s.points.set r.point { x with
        inFlight := none, state := if x.state = .retiring then .free else x.state } }
    (s.run.mode ≠ .quiescing → exec c s = .next u.settle)
    ∧ (s.run.mode = .quiescing → s.ModeLaw →
      ((∃ j, j ≠ i ∧ (s.port j).phase.draining = true) → exec c s = .next u)
      ∧ ((∀ j, j ≠ i → (s.port j).phase.draining = false) →
        exec c s = .next { u with
          ports := u.ports.map fun y => { y with phase := .offline }
          run := { s.run with mode := .quiet } })))

/-- A message that no record or state expects, or a burst that is no undamaged message of a converter, is a
stray: the stray count rises, staying at 255, and nothing else changes (R96, R204). That a burst of a kind only
the Q512 sends is damaged, and that a burst is taken for what its bytes are, is the model's reading (log
entries 21 and 22). -/
def Obligations.StraysAreOnlyCounted : Prop :=
  ∀ (i : PortNo) (s : State), s.heldInReset = false →
    let stray : State := { s with ports := s.ports.set i { s.port i with
      strayCount := min 255 ((s.port i).strayCount + 1) } }
    (∀ seq code range,
      (∀ r k, (s.port i).phase = .busy r k ∨ (s.port i).phase = .cancelling r k → r.seq ≠ seq) →
      exec (.result i seq code range) s = .next stray)
    ∧ (∀ seq, (∀ r k, (s.port i).phase = .cancelling r k → r.seq ≠ seq) →
      exec (.cancelAck i seq) s = .next stray)
    ∧ (∀ cls, (s.port i).phase.isProbing = false → exec (.present i cls) s = .next stray)
    ∧ ∀ burst, (∀ m, m ≠ LinkRx.damaged → burst ≠ linkRxBytes m) →
      exec (.damagedMessage i burst) s = .next stray

/-- The conversion timer running out in BUSY: the count rises, CANCEL is sent, the timer restarts at the record's
length and the port goes CANCELLING; the entry is FAULTED; a LIVE point of a record not superseded takes
PORT_FAULT and joins both change sets; then the engine goes on (R67, R91, R111). A RESULT that is taken first
stops the timer, which does not expire, nor does that of a conversion dispatched then (R84, R89, R99). That a
timeout queued where no timer has run out in BUSY changes nothing is the model's choice (log entries 2 and 5). -/
def Obligations.TimeoutWithdrawsAndFaults : Prop :=
  ∀ (i : PortNo) (s : State), s.heldInReset = false →
    ((∀ r, (s.port i).phase ≠ .busy r 0) → exec (.timeout i) s = .next s)
    ∧ (∀ r k code range, (s.port i).phase = .busy r k → 1 ≤ (s.port i).timeout →
      ∃ t, exec (.result i r.seq code range) s = .next t ∧ exec (.timeout i) t = .next t)
    ∧ ∀ r, (s.port i).phase = .busy r 0 →
    let u : State := { s with
      ports := s.ports.set i { s.port i with
        phase := .cancelling r r.timerLength, timeoutCount := (s.port i).timeoutCount + 1
        sent := (s.port i).sent ++ [.cancel r.seq] }
      scan := s.scan.setEntries r.origin ((s.scan.entries r.origin).map fun e =>
        if e.point = r.point ∧ e.outcome = .inFlight then { e with outcome := .faulted } else e) }
    (r.superseded = false → (s.pt r.point).state = .live →
      exec (.timeout i) s = .next (State.settle { u with
        points := s.points.set r.point { s.pt r.point with quality := .portFault }
        changed := s.changed.map fun c => { c with members := c.members.set r.point true } }))
    ∧ ((r.superseded = true ∨ (s.pt r.point).state ≠ .live) →
      exec (.timeout i) s = .next u.settle)

/-- A probe ends by PRESENT, with the port IDLE and its class taken, or by its timer, with the port OFFLINE,
absent and without class; in WAKING the last one makes the mode ACTIVE and starts the wake guard of 10 ms; in
any other mode the engine looks at its cursors again (R97, R98, R189, R190). A PRESENT that is taken first leaves no
expiry of the probe (R99). That an expiry queued where no probe timer has run out changes nothing is the model's
choice (log entries 2 and 5). -/
def Obligations.ProbesEnd : Prop :=
  ∀ (i : PortNo) (cls : Fin 16) (s : State) (k : Nat) (c : Instr), s.heldInReset = false →
    ((s.port i).phase ≠ .probing 0 → exec (.probeTimerExpiry i) s = .next s)
    ∧ ((s.port i).phase = .probing k →
      ∃ t, exec (.present i cls) s = .next t ∧ exec (.probeTimerExpiry i) t = .next t)
    ∧ ((s.port i).phase = .probing k → c = .present i cls ∨ c = .probeTimerExpiry i ∧ k = 0 →
    let ended : SamplePort :=
      if c = .present i cls then { s.port i with phase := .idle, cls := some cls, absent := false }
      else { s.port i with phase := .offline, cls := none, absent := true }
    let u : State := { s with ports := s.ports.set i ended }
    (s.run.mode ≠ .waking → exec c s = .next u.settle)
    ∧ (s.run.mode = .waking → s.ModeLaw →
      ((∃ j, j ≠ i ∧ (s.port j).phase.isProbing = true) → exec c s = .next u)
      ∧ ((∀ j, j ≠ i → (s.port j).phase.isProbing = false) →
        exec c s = .next { u with run := ⟨.active, some 1000⟩ })))

/-! ### The device group -/

/-- ENTER_QUIET in ACTIVE with the guard stopped halts the scan, sends every BUSY port CANCELLING and goes
QUIESCING, or with none CANCELLING orders every port OFFLINE and goes QUIET; with the guard running it is BUSY.
EXIT_QUIET in QUIET probes every enabled port and goes WAKING, or with none enabled goes ACTIVE with the guard
started (R74, R188, R190 to R192). What ENTER_QUIET answers in QUIET and EXIT_QUIET in ACTIVE is the model's
reading (log entry 10). -/
def Obligations.QuietEntryAndExit : Prop :=
  ∀ (p : CmdPort) (s : State),
    let number (q : SamplePort → Bool) (u : State) :=
      ((List.finRange 4).filter fun i => q (u.port i)).length
    (s.Takes .enterQuiet p [] →
      (s.run.mode = .quiet → exec (.enterQuiet p []) s = .next (s.answered p .ok [0x00#8, 0x00#8]))
      ∧ (s.run.mode = .active → s.run.wakeGuard ≠ none →
        exec (.enterQuiet p []) s = .next (s.answered p .busy []))
      ∧ (s.run.mode = .active → s.run.wakeGuard = none → s.ListLaw → s.RecordLaw → s.FlightLaw →
        ∃ h u : State, s.HaltsTo h
          ∧ u = { h with ports := h.ports.map fun x =>
              match x.phase with
              | .busy r _ => { x with
                  phase := .cancelling { r with cancelled := true } r.timerLength
                  sent := x.sent ++ [.cancel r.seq] }
              | _ => x }
          ∧ ((∃ i, (u.port i).phase.isCancelling = true) →
            exec (.enterQuiet p []) s = .next (State.answered
              { u with run := { s.run with mode := .quiescing } } p .ok
              [0x03#8, byteOf (number (fun x => x.phase.isCancelling) u)]))
          ∧ ((∀ i, (u.port i).phase.isCancelling = false) →
            exec (.enterQuiet p []) s = .next (State.answered
              { u with
                ports := u.ports.map fun x => { x with phase := .offline }
                run := { s.run with mode := .quiet } } p .ok [0x00#8, 0x00#8]))))
    ∧ (s.Takes .exitQuiet p [] →
      (s.run.mode = .active → exec (.exitQuiet p []) s = .next (s.answered p .ok [0x02#8, 0x00#8]))
      ∧ (s.run.mode = .quiet → (∀ i, (s.port i).enable = false) →
        exec (.exitQuiet p []) s = .next (State.answered
          { s with run := ⟨.active, some 1000⟩ } p .ok [0x02#8, 0x00#8]))
      ∧ (s.run.mode = .quiet → (∃ i, (s.port i).enable = true) →
        exec (.exitQuiet p []) s = .next (State.answered
          { s with
            ports := s.ports.map fun x =>
              if x.enable then
                { x with phase := .probing 200, timeoutCount := 0, sent := x.sent ++ [.probe] }
              else x
            run := { s.run with mode := .waking } } p .ok
          [0x01#8, byteOf (number SamplePort.enable s)])))

/-- SOFT_RESET, in every mode: each block as R195 gathers it, the issuing port answered OK with the mode
before, a command waiting at the other port answered ABANDONED (R22, R35, R83, R104, R144, R154, R161, R185,
R195). -/
def Obligations.SoftResetKeepsTheConfiguration : Prop :=
  ∀ (p : CmdPort) (s : State), s.Takes .softReset p [] →
    let q := otherPort p
    ∃ u : State, exec (.softReset p []) s = .next (u.answered p .ok [modeCode s.run.mode])
      ∧ u = { s with
          points := u.points, ports := u.ports, cmdPorts := u.cmdPorts, changed := u.changed
          holds := [], cond := ⟨[], s.cond.raiseSeq⟩, run := ⟨.quiet, none⟩
          attn := ⟨s.attn.mask, false, false, false, false⟩
          scan := { s.scan with
            scanner := .idle, stopRequested := false, late := false, periodTimer := none
            staged := none, prioActive := false, rerun := false, cym := false
            active := s.scan.active.map fun e => { e with outcome := .none }
            prio := s.scan.prio.map fun e => { e with outcome := .none } } }
      ∧ (∀ n, ((s.pt n).state.named = true → u.pt n = { s.pt n with
            staged := none, quality := .unscanned, age := 0, seeded := false, inFlight := none
            level := .normal, candidate := none, confirmCounter := 0, peak := .normal
            unlisted := false })
          ∧ ((s.pt n).state.named = false → (u.pt n).state = .free
            ∧ (u.pt n).revision = (s.pt n).revision ∧ (u.pt n).next = (s.pt n).next
            ∧ (u.pt n).inFlight = none ∧ (u.pt n).staged = none ∧ (u.pt n).unlisted = false))
      ∧ (∀ i, u.port i = { s.port i with phase := .offline, timeoutCount := 0 })
      ∧ (∀ b, (u.changed.get b).cursor = 0 ∧ ∀ n, u.isChanged b n = false)
      ∧ u.cmd p = { s.cmd p with lastExpired := none }
      ∧ (∀ f, (s.cmd q).state = .waiting f → u.cmd q = { s.cmd q with
          lastExpired := none, state := .done ⟨.abandoned, (s.cmd q).overlap, []⟩ })
      ∧ ((∀ f, (s.cmd q).state ≠ .waiting f) → u.cmd q = { s.cmd q with lastExpired := none })

/-! ### The command ports -/

/-- A frame that arrives at a command port is dropped with the overlap mark in WAITING; else it is taken if it
is valid and answered FRAME if not. On SPI it begins with a byte other than 00h and FFh is shifted out
meanwhile; on I2C it is addressed to the target, which acknowledges its address and every byte of the write in
every port state; a write of no byte does not affect the port, and one at any other address draws no acknowledge
and is nothing (R163 to R167, R170, R200). The log of acknowledges is the model's own (log entry 8). That a
FRAME response leaves the port's own overlap mark as it was (log entry 9), and that a fetch in progress is state
of the port, which a frame taken or refused parts from the buffer (log entry 7), is the model's reading. -/
def Obligations.FramesArriveAtAPort : Prop :=
  ∀ (bus : Bus) (p : CmdPort) (bytes : List Byte) (s : State), s.heldInReset = false →
    (bus = .spi ∧ p = .host ∧ bytes.head? ≠ some 0x00#8
      ∨ bus = .i2c s.i2cAddress ∧ p = .service) →
    let c := s.cmd p
    let out := if p = .host then List.replicate bytes.length 0xFF#8 else []
    let acked (b : Bool) : State := { s with i2cAcks := List.replicate (bytes.length + 1) b }
    let u : State := if bus = .spi then s else acked true
    let put (d : CommandPort) : State :=
      { u with cmdPorts := s.cmdPorts.set p { d with shifted := out } }
    let lost := c.fetching.map fun f => { f with fromBuffer := false }
    (bytes = [] → exec (.commandFrame bus bytes) s = .next u)
    ∧ (bytes ≠ [] →
      (∀ f, c.state = .waiting f →
        exec (.commandFrame bus bytes) s = .next (put { c with overlap := true }))
      ∧ ((∀ f, c.state ≠ .waiting f) → ∀ f : Frame, f.params.length ≤ 40 → bytes = frameBytes f →
        exec (.commandFrame bus bytes) s =
          .next (put { c with state := .waiting f, overlap := false, fetching := lost }))
      ∧ ((∀ f, c.state ≠ .waiting f) → (∀ f : Frame, f.params.length ≤ 40 → bytes ≠ frameBytes f) →
        exec (.commandFrame bus bytes) s =
          .next (put { c with state := .done ⟨.frame, false, []⟩, fetching := lost })))
    ∧ ∀ a, a ≠ s.i2cAddress → exec (.commandFrame (.i2c a) bytes) s = .next (acked false)

/-- A fetch returns the response of a port in DONE, its status by the codes of R201, and else a NOT_READY marker
with the overlap mark and the port state, followed by FFh; at its end the port goes READY if the whole response
was delivered and else stays as it is; nothing else changes. On I2C the target acknowledges its own address and
no other; the log of acknowledges is the model's own (log entry 8) (R163, R164, R168 to R170, R174, R198, R200,
R201). The fetch in progress, its mark of the buffer and a new fetch in place of an unfinished one are the
model's reading (log entry 7), and that a FETCH_END without a fetch changes nothing is its choice (log entry 2). -/
def Obligations.FetchesReturnTheResponse : Prop :=
  ∀ (bus : Bus) (p : CmdPort) (s : State), s.heldInReset = false →
    let c := s.cmd p
    let flag (b : Bool) : Byte := if b then 0x01#8 else 0x00#8
    let code : Status → Byte
      | .ok => 0x00#8
      | .busy => 0x01#8
      | .quiet => 0x02#8
      | .noPoint => 0x03#8
      | .noTag => 0x04#8
      | .tagInUse => 0x05#8
      | .tableFull => 0x06#8
      | .badState => 0x07#8
      | .revision => 0x08#8
      | .held => 0x09#8
      | .badParam => 0x0A#8
      | .badBand => 0x0B#8
      | .listFull => 0x0C#8
      | .duplicate => 0x0D#8
      | .notListed => 0x0E#8
      | .noHoldSpace => 0x0F#8
      | .expired => 0x10#8
      | .notHeld => 0x11#8
      | .unknown => 0x12#8
      | .frame => 0x13#8
      | .abandoned => 0x14#8
      | .notReady => 0x15#8
    let put (d : CommandPort) : State := { s with cmdPorts := s.cmdPorts.set p d }
    let returns (f : FetchInProgress) : State :=
      { put { c with fetching := some f } with i2cAcks := if bus = .spi then s.i2cAcks else [true] }
    let marker (waiting : Byte) := closed [code .notReady, flag c.overlap, 0x01#8, waiting]
    ((bus = .spi ∧ p = .host ∨ bus = .i2c s.i2cAddress ∧ p = .service) →
      (∀ r, c.state = .done r → exec (.fetch bus) s = .next
        (returns ⟨closed ([code r.status, flag r.overlap, byteOf r.data.length] ++ r.data), true⟩))
      ∧ (∀ f, c.state = .waiting f →
        exec (.fetch bus) s = .next (returns ⟨marker 0x01#8, false⟩))
      ∧ (c.state = .ready → exec (.fetch bus) s = .next (returns ⟨marker 0x00#8, false⟩)))
    ∧ (∀ a, a ≠ s.i2cAddress → exec (.fetch (.i2c a)) s = .next { s with i2cAcks := [false] })
    ∧ ∀ k : Nat,
      (c.fetching = none → exec (.fetchEnd p k) s = .next s)
      ∧ ∀ f, c.fetching = some f →
        let sentBack := (if p = .host then [0xFF#8] else [])
          ++ (f.bytes ++ List.replicate k 0xFF#8).take k
        (f.fromBuffer = true → f.bytes.length ≤ k → (∃ r, c.state = .done r) →
          exec (.fetchEnd p k) s =
            .next (put { c with state := .ready, fetching := none, shifted := sentBack }))
        ∧ (f.fromBuffer = false ∨ k < f.bytes.length ∨ (∀ r, c.state ≠ .done r) →
          exec (.fetchEnd p k) s = .next (put { c with fetching := none, shifted := sentBack }))

/-! ### Timers and the attention output -/

/-- A period tick starts the next interval, and starts a pass in GAP or sets overrun and late mark in PASS; a
hold whose time has wholly run out leaves the table, sets HOLD_EXPIRED and is recorded at its port, and one with
time left, renewed or not, does not expire; the wake guard stops (R64, R70, R71, R146, R149, R153, R190). That an
expiry queued where its timer does not run (log entry 2) or has ticks left (log entry 5) changes nothing is the
model's choice. -/
def Obligations.TimersExpire : Prop :=
  ∀ s : State, s.heldInReset = false →
    let c := { s.scan with periodTimer := some (10 * s.scan.period) }
    (s.scan.periodTimer = some 0 →
      (s.scan.scanner = .gap → exec .periodTick s = .next (State.settle { s with scan := { c with
        scanner := .pass, late := false, cym := false
        active := c.active.map fun e => { e with outcome := .pending } } }))
      ∧ (s.scan.scanner = .pass → exec .periodTick s = .next { s with
        scan := { c with late := true }, attn := { s.attn with overrun := true } }))
    ∧ (s.scan.periodTimer ≠ some 0 → exec .periodTick s = .next s)
    ∧ (∀ h ∈ s.holds, s.HoldLaw →
      (h.left = 0 → exec (.holdExpiry h.point) s = .next { s with
        holds := s.holds.filter fun k => k.point ≠ h.point
        attn := { s.attn with holdExpired := true }
        cmdPorts := s.cmdPorts.set h.port { s.cmd h.port with lastExpired := some h.point } })
      ∧ (h.left ≠ 0 → exec (.holdExpiry h.point) s = .next s))
    ∧ (∀ n, (∀ h ∈ s.holds, h.point ≠ n) → exec (.holdExpiry n) s = .next s)
    ∧ (s.run.wakeGuard = some 0 →
      exec .wakeGuardExpiry s = .next { s with run := { s.run with wakeGuard := none } })
    ∧ (s.run.wakeGuard ≠ some 0 → exec .wakeGuardExpiry s = .next s)

/-- ATTN_N is low exactly when some source is active and enabled in the mask, out of reset: UNACKED an entry
not acknowledged, OVERFLOW a marked point, PORT_FAULT a FAULTED port, and the four sticky flags (R95, R143,
R180, R182, R196, R202). -/
def Obligations.AttentionFollowsTheSources : Prop :=
  ∀ s : State, s.attnLow = true ↔
    s.inReset = false ∧ s.poweringUp = false
      ∧ ((s.attn.mask.getLsbD 0 = true ∧ ∃ e ∈ s.cond.list, e.acknowledged = false)
        ∨ (s.attn.mask.getLsbD 1 = true ∧ ∃ n, (s.pt n).unlisted = true)
        ∨ (s.attn.mask.getLsbD 2 = true ∧ ∃ i, (s.port i).phase = .faulted)
        ∨ (s.attn.mask.getLsbD 3 = true ∧ s.attn.overrun = true)
        ∨ (s.attn.mask.getLsbD 4 = true ∧ s.attn.prioDone = true)
        ∨ (s.attn.mask.getLsbD 5 = true ∧ s.attn.prioLost = true)
        ∨ (s.attn.mask.getLsbD 6 = true ∧ s.attn.holdExpired = true))

/-! ### What every step keeps -/

/-- Every step keeps the mode table: the scan stands still outside ACTIVE, every port is OFFLINE in QUIET, a
port is PROBING in WAKING, in QUIESCING some port is CANCELLING and none BUSY, the wake guard runs only in
ACTIVE, and a disabled port is OFFLINE (R85, R186, R189, R190, R192). -/
def Obligations.EveryStepKeepsTheModeLaws : Prop :=
  ∀ s t : State, s.ModeLaw → s.GuardLaw → s.EnableLaw → step s = .next t →
    t.ModeLaw ∧ t.GuardLaw ∧ t.EnableLaw

/-- After every step no cursor in force stands at an entry that could go on and no end of a pass or run is
due (R65, R68, R79). -/
def Obligations.EveryStepLeavesTheEngineSettled : Prop :=
  ∀ s t : State, s.ModeLaw → s.Settled → step s = .next t → t.Settled

/-- Every step keeps in-flight marks and outstanding records in agreement, RETIRING points with a mark, and
IN_FLIGHT entries with a BUSY port (R7, R9, R17, R19, R66, R92). -/
def Obligations.EveryStepKeepsMarksAndRecords : Prop :=
  ∀ s t : State, s.ModeLaw → s.ScannerLaw → s.RunLaw → s.RecordLaw → s.FlightLaw → step s = .next t →
    t.RecordLaw ∧ t.FlightLaw

/-- Every step keeps: nothing staged and no open entry in IDLE, none open in GAP, the period timer running
exactly in CYCLIC scanning, no rerun and no open priority entry without a run (R5, R42, R54, R56, R69,
R70). -/
def Obligations.EveryStepKeepsTheScanLaws : Prop :=
  ∀ s t : State, s.ScannerLaw → s.TimerLaw → s.RunLaw → step s = .next t →
    t.ScannerLaw ∧ t.TimerLaw ∧ t.RunLaw

/-- Every step keeps the tag index sound and the lists within their capacities, without a point twice, of
named points only (R1, R9, R18, R23, R49, R55). -/
def Obligations.EveryStepKeepsTheIndexAndTheLists : Prop :=
  ∀ s t : State, s.IndexLaw → s.ListLaw → step s = .next t → t.IndexLaw ∧ t.ListLaw

/-- Every step keeps the condition list within 64 entries, one a point, in agreement with the records; marks
only while it is full, on points without entry; and points without either at NORMAL (R119, R120, R128,
R130, R131). -/
def Obligations.EveryStepKeepsTheConditionLaws : Prop :=
  ∀ s t : State, s.ConditionListLaw → s.MarkLaw → s.CalmLaw → step s = .next t →
    t.ConditionListLaw ∧ t.MarkLaw ∧ t.CalmLaw

/-- Every step keeps staged profiles on LIVE and PARKED points, the hold table within 8 records, one a named
point, and the change sets of LIVE and PARKED points only (R5, R145, R155). -/
def Obligations.EveryStepKeepsTheAccessLaws : Prop :=
  ∀ s t : State, s.IndexLaw → s.CalmLaw → s.StagedLaw → s.HoldLaw → s.ChangeLaw → step s = .next t →
    t.StagedLaw ∧ t.HoldLaw ∧ t.ChangeLaw

/-- Every step keeps: both profiles legal; value, age and confirm counter, the period, T, the timeout and stray
counts and the timer length of a record in range; the ticks left of the period timer, a probe, a conversion,
the wake guard and a hold within their timer's length, and a hold reported with 1 to 255 ms. And a timer that has
run out has its expiry waiting, so that none outlasts its time by a tick; that it stands at 0 till then, and the
unit of 10 µs, are the model's choices (log entries 3 and 6) (R3, R4, R6, R8, R53, R84, R87, R145, R146, R149,
R186). -/
def Obligations.EveryStepKeepsTheRanges : Prop :=
  ∀ s t : State, step s = .next t →
    (s.RangeLaw → t.RangeLaw) ∧ (s.RangeLaw → s.HoldLaw → s.ExpiryLaw → t.ExpiryLaw)

/-- Only DEFINE, EDIT, ACTIVATE, PARK, UNPARK and RETIRE, and a reset of the part, move a tag or a revision;
any other step leaves a record's state, but that RETIRING may become FREE, and its active profile, but that a
staged one may be promoted; and only a message of a converter, DEFINE or a reset moves raw and value (R1, R2,
R6, R9, R43). -/
def Obligations.OnlyTheirStepsMoveIdentityAndValue : Prop :=
  ∀ (c : Instr) (s t : State) (n : PointNo), exec c s = .next t →
    (∀ b, c ≠ .powerOn b) → (∀ e, c ≠ .resetN e) → (∀ p ps, c ≠ .define p ps) →
    ((∀ p ps, c ≠ .edit p ps ∧ c ≠ .activate p ps ∧ c ≠ .park p ps ∧ c ≠ .unpark p ps
        ∧ c ≠ .retire p ps) →
      (t.pt n).tag = (s.pt n).tag ∧ (t.pt n).revision = (s.pt n).revision
        ∧ ((t.pt n).state = (s.pt n).state
          ∨ (s.pt n).state = .retiring ∧ (t.pt n).state = .free)
        ∧ ((t.pt n).active = (s.pt n).active ∨ (s.pt n).staged = some (t.pt n).active))
    ∧ ((∀ i seq code range, c ≠ .result i seq code range) → (∀ i burst, c ≠ .damagedMessage i burst) →
      (t.pt n).raw = (s.pt n).raw ∧ (t.pt n).value = (s.pt n).value)

end
end

