-- ==== Sys2Proof/Laws/State.lean ====
section
/-! SUPPORT. What each update of the state leaves in each field, so that no later proof unfolds a
record update. -/

namespace Sys2Proof.Machine

/-! ### setPt -/

section

variable (s : State) (n : PointNo) (x : Point)

@[simp] theorem State.setPt_points :
    (s.setPt n x).points = s.points.set n x := rfl

@[simp] theorem State.setPt_heads : (s.setPt n x).heads = s.heads := rfl

@[simp] theorem State.setPt_scan : (s.setPt n x).scan = s.scan := rfl

@[simp] theorem State.setPt_ports : (s.setPt n x).ports = s.ports := rfl

@[simp] theorem State.setPt_cond : (s.setPt n x).cond = s.cond := rfl

@[simp] theorem State.setPt_holds : (s.setPt n x).holds = s.holds := rfl

@[simp] theorem State.setPt_changed : (s.setPt n x).changed = s.changed := rfl

@[simp] theorem State.setPt_cmdPorts : (s.setPt n x).cmdPorts = s.cmdPorts := rfl

@[simp] theorem State.setPt_servedLast : (s.setPt n x).servedLast = s.servedLast := rfl

@[simp] theorem State.setPt_attn : (s.setPt n x).attn = s.attn := rfl

@[simp] theorem State.setPt_run : (s.setPt n x).run = s.run := rfl

@[simp] theorem State.setPt_i2cAddress : (s.setPt n x).i2cAddress = s.i2cAddress := rfl

@[simp] theorem State.setPt_i2cAcks : (s.setPt n x).i2cAcks = s.i2cAcks := rfl

@[simp] theorem State.setPt_inReset : (s.setPt n x).inReset = s.inReset := rfl

@[simp] theorem State.setPt_poweringUp : (s.setPt n x).poweringUp = s.poweringUp := rfl

@[simp] theorem State.setPt_heldInReset : (s.setPt n x).heldInReset = s.heldInReset := rfl

@[simp] theorem State.setPt_pending : (s.setPt n x).pending = s.pending := rfl

end

/-! ### modPt -/

section

variable (s : State) (n : PointNo) (f : Point → Point)

@[simp] theorem State.modPt_points :
    (s.modPt n f).points = s.points.set n (f (s.pt n)) := rfl

@[simp] theorem State.modPt_heads : (s.modPt n f).heads = s.heads := rfl

@[simp] theorem State.modPt_scan : (s.modPt n f).scan = s.scan := rfl

@[simp] theorem State.modPt_ports : (s.modPt n f).ports = s.ports := rfl

@[simp] theorem State.modPt_cond : (s.modPt n f).cond = s.cond := rfl

@[simp] theorem State.modPt_holds : (s.modPt n f).holds = s.holds := rfl

@[simp] theorem State.modPt_changed : (s.modPt n f).changed = s.changed := rfl

@[simp] theorem State.modPt_cmdPorts : (s.modPt n f).cmdPorts = s.cmdPorts := rfl

@[simp] theorem State.modPt_servedLast : (s.modPt n f).servedLast = s.servedLast := rfl

@[simp] theorem State.modPt_attn : (s.modPt n f).attn = s.attn := rfl

@[simp] theorem State.modPt_run : (s.modPt n f).run = s.run := rfl

@[simp] theorem State.modPt_i2cAddress : (s.modPt n f).i2cAddress = s.i2cAddress := rfl

@[simp] theorem State.modPt_i2cAcks : (s.modPt n f).i2cAcks = s.i2cAcks := rfl

@[simp] theorem State.modPt_inReset : (s.modPt n f).inReset = s.inReset := rfl

@[simp] theorem State.modPt_poweringUp : (s.modPt n f).poweringUp = s.poweringUp := rfl

@[simp] theorem State.modPt_heldInReset : (s.modPt n f).heldInReset = s.heldInReset := rfl

@[simp] theorem State.modPt_pending : (s.modPt n f).pending = s.pending := rfl

end

/-! ### setNext -/

section

variable (s : State) (n : PointNo) (h : Option PointNo)

@[simp] theorem State.setNext_heads : (s.setNext n h).heads = s.heads := rfl

@[simp] theorem State.setNext_scan : (s.setNext n h).scan = s.scan := rfl

@[simp] theorem State.setNext_ports : (s.setNext n h).ports = s.ports := rfl

@[simp] theorem State.setNext_cond : (s.setNext n h).cond = s.cond := rfl

@[simp] theorem State.setNext_holds : (s.setNext n h).holds = s.holds := rfl

@[simp] theorem State.setNext_changed : (s.setNext n h).changed = s.changed := rfl

@[simp] theorem State.setNext_cmdPorts : (s.setNext n h).cmdPorts = s.cmdPorts := rfl

@[simp] theorem State.setNext_servedLast : (s.setNext n h).servedLast = s.servedLast := rfl

@[simp] theorem State.setNext_attn : (s.setNext n h).attn = s.attn := rfl

@[simp] theorem State.setNext_run : (s.setNext n h).run = s.run := rfl

@[simp] theorem State.setNext_i2cAddress : (s.setNext n h).i2cAddress = s.i2cAddress := rfl

@[simp] theorem State.setNext_i2cAcks : (s.setNext n h).i2cAcks = s.i2cAcks := rfl

@[simp] theorem State.setNext_inReset : (s.setNext n h).inReset = s.inReset := rfl

@[simp] theorem State.setNext_poweringUp : (s.setNext n h).poweringUp = s.poweringUp := rfl

@[simp] theorem State.setNext_heldInReset : (s.setNext n h).heldInReset = s.heldInReset := rfl

@[simp] theorem State.setNext_pending : (s.setNext n h).pending = s.pending := rfl

end

/-! ### setHead -/

section

variable (s : State) (b : Byte) (h : Option PointNo)

@[simp] theorem State.setHead_points : (s.setHead b h).points = s.points := rfl

@[simp] theorem State.setHead_heads :
    (s.setHead b h).heads = s.heads.set (bucketNo b) h := rfl

@[simp] theorem State.setHead_scan : (s.setHead b h).scan = s.scan := rfl

@[simp] theorem State.setHead_ports : (s.setHead b h).ports = s.ports := rfl

@[simp] theorem State.setHead_cond : (s.setHead b h).cond = s.cond := rfl

@[simp] theorem State.setHead_holds : (s.setHead b h).holds = s.holds := rfl

@[simp] theorem State.setHead_changed : (s.setHead b h).changed = s.changed := rfl

@[simp] theorem State.setHead_cmdPorts : (s.setHead b h).cmdPorts = s.cmdPorts := rfl

@[simp] theorem State.setHead_servedLast : (s.setHead b h).servedLast = s.servedLast := rfl

@[simp] theorem State.setHead_attn : (s.setHead b h).attn = s.attn := rfl

@[simp] theorem State.setHead_run : (s.setHead b h).run = s.run := rfl

@[simp] theorem State.setHead_i2cAddress : (s.setHead b h).i2cAddress = s.i2cAddress := rfl

@[simp] theorem State.setHead_i2cAcks : (s.setHead b h).i2cAcks = s.i2cAcks := rfl

@[simp] theorem State.setHead_inReset : (s.setHead b h).inReset = s.inReset := rfl

@[simp] theorem State.setHead_poweringUp : (s.setHead b h).poweringUp = s.poweringUp := rfl

@[simp] theorem State.setHead_heldInReset : (s.setHead b h).heldInReset = s.heldInReset := rfl

@[simp] theorem State.setHead_pending : (s.setHead b h).pending = s.pending := rfl

end

/-! ### setPort -/

section

variable (s : State) (i : PortNo) (x : SamplePort)

@[simp] theorem State.setPort_points : (s.setPort i x).points = s.points := rfl

@[simp] theorem State.setPort_heads : (s.setPort i x).heads = s.heads := rfl

@[simp] theorem State.setPort_scan : (s.setPort i x).scan = s.scan := rfl

@[simp] theorem State.setPort_ports :
    (s.setPort i x).ports = s.ports.set i x := rfl

@[simp] theorem State.setPort_cond : (s.setPort i x).cond = s.cond := rfl

@[simp] theorem State.setPort_holds : (s.setPort i x).holds = s.holds := rfl

@[simp] theorem State.setPort_changed : (s.setPort i x).changed = s.changed := rfl

@[simp] theorem State.setPort_cmdPorts : (s.setPort i x).cmdPorts = s.cmdPorts := rfl

@[simp] theorem State.setPort_servedLast : (s.setPort i x).servedLast = s.servedLast := rfl

@[simp] theorem State.setPort_attn : (s.setPort i x).attn = s.attn := rfl

@[simp] theorem State.setPort_run : (s.setPort i x).run = s.run := rfl

@[simp] theorem State.setPort_i2cAddress : (s.setPort i x).i2cAddress = s.i2cAddress := rfl

@[simp] theorem State.setPort_i2cAcks : (s.setPort i x).i2cAcks = s.i2cAcks := rfl

@[simp] theorem State.setPort_inReset : (s.setPort i x).inReset = s.inReset := rfl

@[simp] theorem State.setPort_poweringUp : (s.setPort i x).poweringUp = s.poweringUp := rfl

@[simp] theorem State.setPort_heldInReset : (s.setPort i x).heldInReset = s.heldInReset := rfl

@[simp] theorem State.setPort_pending : (s.setPort i x).pending = s.pending := rfl

end

/-! ### modPort -/

section

variable (s : State) (i : PortNo) (f : SamplePort → SamplePort)

@[simp] theorem State.modPort_points : (s.modPort i f).points = s.points := rfl

@[simp] theorem State.modPort_heads : (s.modPort i f).heads = s.heads := rfl

@[simp] theorem State.modPort_scan : (s.modPort i f).scan = s.scan := rfl

@[simp] theorem State.modPort_ports :
    (s.modPort i f).ports = s.ports.set i (f (s.port i)) := rfl

@[simp] theorem State.modPort_cond : (s.modPort i f).cond = s.cond := rfl

@[simp] theorem State.modPort_holds : (s.modPort i f).holds = s.holds := rfl

@[simp] theorem State.modPort_changed : (s.modPort i f).changed = s.changed := rfl

@[simp] theorem State.modPort_cmdPorts : (s.modPort i f).cmdPorts = s.cmdPorts := rfl

@[simp] theorem State.modPort_servedLast : (s.modPort i f).servedLast = s.servedLast := rfl

@[simp] theorem State.modPort_attn : (s.modPort i f).attn = s.attn := rfl

@[simp] theorem State.modPort_run : (s.modPort i f).run = s.run := rfl

@[simp] theorem State.modPort_i2cAddress : (s.modPort i f).i2cAddress = s.i2cAddress := rfl

@[simp] theorem State.modPort_i2cAcks : (s.modPort i f).i2cAcks = s.i2cAcks := rfl

@[simp] theorem State.modPort_inReset : (s.modPort i f).inReset = s.inReset := rfl

@[simp] theorem State.modPort_poweringUp : (s.modPort i f).poweringUp = s.poweringUp := rfl

@[simp] theorem State.modPort_heldInReset : (s.modPort i f).heldInReset = s.heldInReset := rfl

@[simp] theorem State.modPort_pending : (s.modPort i f).pending = s.pending := rfl

end

/-! ### setCmd -/

section

variable (s : State) (p : CmdPort) (x : CommandPort)

@[simp] theorem State.setCmd_points : (s.setCmd p x).points = s.points := rfl

@[simp] theorem State.setCmd_heads : (s.setCmd p x).heads = s.heads := rfl

@[simp] theorem State.setCmd_scan : (s.setCmd p x).scan = s.scan := rfl

@[simp] theorem State.setCmd_ports : (s.setCmd p x).ports = s.ports := rfl

@[simp] theorem State.setCmd_cond : (s.setCmd p x).cond = s.cond := rfl

@[simp] theorem State.setCmd_holds : (s.setCmd p x).holds = s.holds := rfl

@[simp] theorem State.setCmd_changed : (s.setCmd p x).changed = s.changed := rfl

@[simp] theorem State.setCmd_cmdPorts :
    (s.setCmd p x).cmdPorts = s.cmdPorts.set p x := rfl

@[simp] theorem State.setCmd_servedLast : (s.setCmd p x).servedLast = s.servedLast := rfl

@[simp] theorem State.setCmd_attn : (s.setCmd p x).attn = s.attn := rfl

@[simp] theorem State.setCmd_run : (s.setCmd p x).run = s.run := rfl

@[simp] theorem State.setCmd_i2cAddress : (s.setCmd p x).i2cAddress = s.i2cAddress := rfl

@[simp] theorem State.setCmd_i2cAcks : (s.setCmd p x).i2cAcks = s.i2cAcks := rfl

@[simp] theorem State.setCmd_inReset : (s.setCmd p x).inReset = s.inReset := rfl

@[simp] theorem State.setCmd_poweringUp : (s.setCmd p x).poweringUp = s.poweringUp := rfl

@[simp] theorem State.setCmd_heldInReset : (s.setCmd p x).heldInReset = s.heldInReset := rfl

@[simp] theorem State.setCmd_pending : (s.setCmd p x).pending = s.pending := rfl

end

/-! ### modCmd -/

section

variable (s : State) (p : CmdPort) (f : CommandPort → CommandPort)

@[simp] theorem State.modCmd_points : (s.modCmd p f).points = s.points := rfl

@[simp] theorem State.modCmd_heads : (s.modCmd p f).heads = s.heads := rfl

@[simp] theorem State.modCmd_scan : (s.modCmd p f).scan = s.scan := rfl

@[simp] theorem State.modCmd_ports : (s.modCmd p f).ports = s.ports := rfl

@[simp] theorem State.modCmd_cond : (s.modCmd p f).cond = s.cond := rfl

@[simp] theorem State.modCmd_holds : (s.modCmd p f).holds = s.holds := rfl

@[simp] theorem State.modCmd_changed : (s.modCmd p f).changed = s.changed := rfl

@[simp] theorem State.modCmd_cmdPorts :
    (s.modCmd p f).cmdPorts = s.cmdPorts.set p (f (s.cmd p)) := rfl

@[simp] theorem State.modCmd_servedLast : (s.modCmd p f).servedLast = s.servedLast := rfl

@[simp] theorem State.modCmd_attn : (s.modCmd p f).attn = s.attn := rfl

@[simp] theorem State.modCmd_run : (s.modCmd p f).run = s.run := rfl

@[simp] theorem State.modCmd_i2cAddress : (s.modCmd p f).i2cAddress = s.i2cAddress := rfl

@[simp] theorem State.modCmd_i2cAcks : (s.modCmd p f).i2cAcks = s.i2cAcks := rfl

@[simp] theorem State.modCmd_inReset : (s.modCmd p f).inReset = s.inReset := rfl

@[simp] theorem State.modCmd_poweringUp : (s.modCmd p f).poweringUp = s.poweringUp := rfl

@[simp] theorem State.modCmd_heldInReset : (s.modCmd p f).heldInReset = s.heldInReset := rfl

@[simp] theorem State.modCmd_pending : (s.modCmd p f).pending = s.pending := rfl

end

/-! ### modScan -/

section

variable (s : State) (f : Scan → Scan)

@[simp] theorem State.modScan_points : (s.modScan f).points = s.points := rfl

@[simp] theorem State.modScan_heads : (s.modScan f).heads = s.heads := rfl

@[simp] theorem State.modScan_scan :
    (s.modScan f).scan = f s.scan := rfl

@[simp] theorem State.modScan_ports : (s.modScan f).ports = s.ports := rfl

@[simp] theorem State.modScan_cond : (s.modScan f).cond = s.cond := rfl

@[simp] theorem State.modScan_holds : (s.modScan f).holds = s.holds := rfl

@[simp] theorem State.modScan_changed : (s.modScan f).changed = s.changed := rfl

@[simp] theorem State.modScan_cmdPorts : (s.modScan f).cmdPorts = s.cmdPorts := rfl

@[simp] theorem State.modScan_servedLast : (s.modScan f).servedLast = s.servedLast := rfl

@[simp] theorem State.modScan_attn : (s.modScan f).attn = s.attn := rfl

@[simp] theorem State.modScan_run : (s.modScan f).run = s.run := rfl

@[simp] theorem State.modScan_i2cAddress : (s.modScan f).i2cAddress = s.i2cAddress := rfl

@[simp] theorem State.modScan_i2cAcks : (s.modScan f).i2cAcks = s.i2cAcks := rfl

@[simp] theorem State.modScan_inReset : (s.modScan f).inReset = s.inReset := rfl

@[simp] theorem State.modScan_poweringUp : (s.modScan f).poweringUp = s.poweringUp := rfl

@[simp] theorem State.modScan_heldInReset : (s.modScan f).heldInReset = s.heldInReset := rfl

@[simp] theorem State.modScan_pending : (s.modScan f).pending = s.pending := rfl

end

/-! ### modCond -/

section

variable (s : State) (f : CondUnit → CondUnit)

@[simp] theorem State.modCond_points : (s.modCond f).points = s.points := rfl

@[simp] theorem State.modCond_heads : (s.modCond f).heads = s.heads := rfl

@[simp] theorem State.modCond_scan : (s.modCond f).scan = s.scan := rfl

@[simp] theorem State.modCond_ports : (s.modCond f).ports = s.ports := rfl

@[simp] theorem State.modCond_cond :
    (s.modCond f).cond = f s.cond := rfl

@[simp] theorem State.modCond_holds : (s.modCond f).holds = s.holds := rfl

@[simp] theorem State.modCond_changed : (s.modCond f).changed = s.changed := rfl

@[simp] theorem State.modCond_cmdPorts : (s.modCond f).cmdPorts = s.cmdPorts := rfl

@[simp] theorem State.modCond_servedLast : (s.modCond f).servedLast = s.servedLast := rfl

@[simp] theorem State.modCond_attn : (s.modCond f).attn = s.attn := rfl

@[simp] theorem State.modCond_run : (s.modCond f).run = s.run := rfl

@[simp] theorem State.modCond_i2cAddress : (s.modCond f).i2cAddress = s.i2cAddress := rfl

@[simp] theorem State.modCond_i2cAcks : (s.modCond f).i2cAcks = s.i2cAcks := rfl

@[simp] theorem State.modCond_inReset : (s.modCond f).inReset = s.inReset := rfl

@[simp] theorem State.modCond_poweringUp : (s.modCond f).poweringUp = s.poweringUp := rfl

@[simp] theorem State.modCond_heldInReset : (s.modCond f).heldInReset = s.heldInReset := rfl

@[simp] theorem State.modCond_pending : (s.modCond f).pending = s.pending := rfl

end

/-! ### modAttn -/

section

variable (s : State) (f : Attention → Attention)

@[simp] theorem State.modAttn_points : (s.modAttn f).points = s.points := rfl

@[simp] theorem State.modAttn_heads : (s.modAttn f).heads = s.heads := rfl

@[simp] theorem State.modAttn_scan : (s.modAttn f).scan = s.scan := rfl

@[simp] theorem State.modAttn_ports : (s.modAttn f).ports = s.ports := rfl

@[simp] theorem State.modAttn_cond : (s.modAttn f).cond = s.cond := rfl

@[simp] theorem State.modAttn_holds : (s.modAttn f).holds = s.holds := rfl

@[simp] theorem State.modAttn_changed : (s.modAttn f).changed = s.changed := rfl

@[simp] theorem State.modAttn_cmdPorts : (s.modAttn f).cmdPorts = s.cmdPorts := rfl

@[simp] theorem State.modAttn_servedLast : (s.modAttn f).servedLast = s.servedLast := rfl

@[simp] theorem State.modAttn_attn :
    (s.modAttn f).attn = f s.attn := rfl

@[simp] theorem State.modAttn_run : (s.modAttn f).run = s.run := rfl

@[simp] theorem State.modAttn_i2cAddress : (s.modAttn f).i2cAddress = s.i2cAddress := rfl

@[simp] theorem State.modAttn_i2cAcks : (s.modAttn f).i2cAcks = s.i2cAcks := rfl

@[simp] theorem State.modAttn_inReset : (s.modAttn f).inReset = s.inReset := rfl

@[simp] theorem State.modAttn_poweringUp : (s.modAttn f).poweringUp = s.poweringUp := rfl

@[simp] theorem State.modAttn_heldInReset : (s.modAttn f).heldInReset = s.heldInReset := rfl

@[simp] theorem State.modAttn_pending : (s.modAttn f).pending = s.pending := rfl

end

/-! ### setHolds -/

section

variable (s : State) (hs : List HoldRecord)

@[simp] theorem State.setHolds_points : (s.setHolds hs).points = s.points := rfl

@[simp] theorem State.setHolds_heads : (s.setHolds hs).heads = s.heads := rfl

@[simp] theorem State.setHolds_scan : (s.setHolds hs).scan = s.scan := rfl

@[simp] theorem State.setHolds_ports : (s.setHolds hs).ports = s.ports := rfl

@[simp] theorem State.setHolds_cond : (s.setHolds hs).cond = s.cond := rfl

@[simp] theorem State.setHolds_holds :
    (s.setHolds hs).holds = hs := rfl

@[simp] theorem State.setHolds_changed : (s.setHolds hs).changed = s.changed := rfl

@[simp] theorem State.setHolds_cmdPorts : (s.setHolds hs).cmdPorts = s.cmdPorts := rfl

@[simp] theorem State.setHolds_servedLast : (s.setHolds hs).servedLast = s.servedLast := rfl

@[simp] theorem State.setHolds_attn : (s.setHolds hs).attn = s.attn := rfl

@[simp] theorem State.setHolds_run : (s.setHolds hs).run = s.run := rfl

@[simp] theorem State.setHolds_i2cAddress : (s.setHolds hs).i2cAddress = s.i2cAddress := rfl

@[simp] theorem State.setHolds_i2cAcks : (s.setHolds hs).i2cAcks = s.i2cAcks := rfl

@[simp] theorem State.setHolds_inReset : (s.setHolds hs).inReset = s.inReset := rfl

@[simp] theorem State.setHolds_poweringUp : (s.setHolds hs).poweringUp = s.poweringUp := rfl

@[simp] theorem State.setHolds_heldInReset : (s.setHolds hs).heldInReset = s.heldInReset := rfl

@[simp] theorem State.setHolds_pending : (s.setHolds hs).pending = s.pending := rfl

end

/-! ### setChanged -/

section

variable (s : State) (c : Both ChangeSet)

@[simp] theorem State.setChanged_points : (s.setChanged c).points = s.points := rfl

@[simp] theorem State.setChanged_heads : (s.setChanged c).heads = s.heads := rfl

@[simp] theorem State.setChanged_scan : (s.setChanged c).scan = s.scan := rfl

@[simp] theorem State.setChanged_ports : (s.setChanged c).ports = s.ports := rfl

@[simp] theorem State.setChanged_cond : (s.setChanged c).cond = s.cond := rfl

@[simp] theorem State.setChanged_holds : (s.setChanged c).holds = s.holds := rfl

@[simp] theorem State.setChanged_changed :
    (s.setChanged c).changed = c := rfl

@[simp] theorem State.setChanged_cmdPorts : (s.setChanged c).cmdPorts = s.cmdPorts := rfl

@[simp] theorem State.setChanged_servedLast : (s.setChanged c).servedLast = s.servedLast := rfl

@[simp] theorem State.setChanged_attn : (s.setChanged c).attn = s.attn := rfl

@[simp] theorem State.setChanged_run : (s.setChanged c).run = s.run := rfl

@[simp] theorem State.setChanged_i2cAddress : (s.setChanged c).i2cAddress = s.i2cAddress := rfl

@[simp] theorem State.setChanged_i2cAcks : (s.setChanged c).i2cAcks = s.i2cAcks := rfl

@[simp] theorem State.setChanged_inReset : (s.setChanged c).inReset = s.inReset := rfl

@[simp] theorem State.setChanged_poweringUp : (s.setChanged c).poweringUp = s.poweringUp := rfl

@[simp] theorem State.setChanged_heldInReset : (s.setChanged c).heldInReset = s.heldInReset := rfl

@[simp] theorem State.setChanged_pending : (s.setChanged c).pending = s.pending := rfl

end

/-! ### setServed -/

section

variable (s : State) (p : CmdPort)

@[simp] theorem State.setServed_points : (s.setServed p).points = s.points := rfl

@[simp] theorem State.setServed_heads : (s.setServed p).heads = s.heads := rfl

@[simp] theorem State.setServed_scan : (s.setServed p).scan = s.scan := rfl

@[simp] theorem State.setServed_ports : (s.setServed p).ports = s.ports := rfl

@[simp] theorem State.setServed_cond : (s.setServed p).cond = s.cond := rfl

@[simp] theorem State.setServed_holds : (s.setServed p).holds = s.holds := rfl

@[simp] theorem State.setServed_changed : (s.setServed p).changed = s.changed := rfl

@[simp] theorem State.setServed_cmdPorts : (s.setServed p).cmdPorts = s.cmdPorts := rfl

@[simp] theorem State.setServed_servedLast :
    (s.setServed p).servedLast = p := rfl

@[simp] theorem State.setServed_attn : (s.setServed p).attn = s.attn := rfl

@[simp] theorem State.setServed_run : (s.setServed p).run = s.run := rfl

@[simp] theorem State.setServed_i2cAddress : (s.setServed p).i2cAddress = s.i2cAddress := rfl

@[simp] theorem State.setServed_i2cAcks : (s.setServed p).i2cAcks = s.i2cAcks := rfl

@[simp] theorem State.setServed_inReset : (s.setServed p).inReset = s.inReset := rfl

@[simp] theorem State.setServed_poweringUp : (s.setServed p).poweringUp = s.poweringUp := rfl

@[simp] theorem State.setServed_heldInReset : (s.setServed p).heldInReset = s.heldInReset := rfl

@[simp] theorem State.setServed_pending : (s.setServed p).pending = s.pending := rfl

end

/-! ### setRun -/

section

variable (s : State) (r : RunControl)

@[simp] theorem State.setRun_points : (s.setRun r).points = s.points := rfl

@[simp] theorem State.setRun_heads : (s.setRun r).heads = s.heads := rfl

@[simp] theorem State.setRun_scan : (s.setRun r).scan = s.scan := rfl

@[simp] theorem State.setRun_ports : (s.setRun r).ports = s.ports := rfl

@[simp] theorem State.setRun_cond : (s.setRun r).cond = s.cond := rfl

@[simp] theorem State.setRun_holds : (s.setRun r).holds = s.holds := rfl

@[simp] theorem State.setRun_changed : (s.setRun r).changed = s.changed := rfl

@[simp] theorem State.setRun_cmdPorts : (s.setRun r).cmdPorts = s.cmdPorts := rfl

@[simp] theorem State.setRun_servedLast : (s.setRun r).servedLast = s.servedLast := rfl

@[simp] theorem State.setRun_attn : (s.setRun r).attn = s.attn := rfl

@[simp] theorem State.setRun_run :
    (s.setRun r).run = r := rfl

@[simp] theorem State.setRun_i2cAddress : (s.setRun r).i2cAddress = s.i2cAddress := rfl

@[simp] theorem State.setRun_i2cAcks : (s.setRun r).i2cAcks = s.i2cAcks := rfl

@[simp] theorem State.setRun_inReset : (s.setRun r).inReset = s.inReset := rfl

@[simp] theorem State.setRun_poweringUp : (s.setRun r).poweringUp = s.poweringUp := rfl

@[simp] theorem State.setRun_heldInReset : (s.setRun r).heldInReset = s.heldInReset := rfl

@[simp] theorem State.setRun_pending : (s.setRun r).pending = s.pending := rfl

end

/-! ### setAcks -/

section

variable (s : State) (bits : List Bool)

@[simp] theorem State.setAcks_points : (s.setAcks bits).points = s.points := rfl

@[simp] theorem State.setAcks_heads : (s.setAcks bits).heads = s.heads := rfl

@[simp] theorem State.setAcks_scan : (s.setAcks bits).scan = s.scan := rfl

@[simp] theorem State.setAcks_ports : (s.setAcks bits).ports = s.ports := rfl

@[simp] theorem State.setAcks_cond : (s.setAcks bits).cond = s.cond := rfl

@[simp] theorem State.setAcks_holds : (s.setAcks bits).holds = s.holds := rfl

@[simp] theorem State.setAcks_changed : (s.setAcks bits).changed = s.changed := rfl

@[simp] theorem State.setAcks_cmdPorts : (s.setAcks bits).cmdPorts = s.cmdPorts := rfl

@[simp] theorem State.setAcks_servedLast : (s.setAcks bits).servedLast = s.servedLast := rfl

@[simp] theorem State.setAcks_attn : (s.setAcks bits).attn = s.attn := rfl

@[simp] theorem State.setAcks_run : (s.setAcks bits).run = s.run := rfl

@[simp] theorem State.setAcks_i2cAddress : (s.setAcks bits).i2cAddress = s.i2cAddress := rfl

@[simp] theorem State.setAcks_i2cAcks :
    (s.setAcks bits).i2cAcks = bits := rfl

@[simp] theorem State.setAcks_inReset : (s.setAcks bits).inReset = s.inReset := rfl

@[simp] theorem State.setAcks_poweringUp : (s.setAcks bits).poweringUp = s.poweringUp := rfl

@[simp] theorem State.setAcks_heldInReset : (s.setAcks bits).heldInReset = s.heldInReset := rfl

@[simp] theorem State.setAcks_pending : (s.setAcks bits).pending = s.pending := rfl

end

/-! ### setMode -/

section

variable (s : State) (m : Mode)

@[simp] theorem State.setMode_points : (s.setMode m).points = s.points := rfl

@[simp] theorem State.setMode_heads : (s.setMode m).heads = s.heads := rfl

@[simp] theorem State.setMode_scan : (s.setMode m).scan = s.scan := rfl

@[simp] theorem State.setMode_ports : (s.setMode m).ports = s.ports := rfl

@[simp] theorem State.setMode_cond : (s.setMode m).cond = s.cond := rfl

@[simp] theorem State.setMode_holds : (s.setMode m).holds = s.holds := rfl

@[simp] theorem State.setMode_changed : (s.setMode m).changed = s.changed := rfl

@[simp] theorem State.setMode_cmdPorts : (s.setMode m).cmdPorts = s.cmdPorts := rfl

@[simp] theorem State.setMode_servedLast : (s.setMode m).servedLast = s.servedLast := rfl

@[simp] theorem State.setMode_attn : (s.setMode m).attn = s.attn := rfl

@[simp] theorem State.setMode_i2cAddress : (s.setMode m).i2cAddress = s.i2cAddress := rfl

@[simp] theorem State.setMode_i2cAcks : (s.setMode m).i2cAcks = s.i2cAcks := rfl

@[simp] theorem State.setMode_inReset : (s.setMode m).inReset = s.inReset := rfl

@[simp] theorem State.setMode_poweringUp : (s.setMode m).poweringUp = s.poweringUp := rfl

@[simp] theorem State.setMode_heldInReset : (s.setMode m).heldInReset = s.heldInReset := rfl

@[simp] theorem State.setMode_pending : (s.setMode m).pending = s.pending := rfl

end

/-! ### forgetExpired -/

section

variable (s : State) (p : CmdPort) (n : PointNo)

@[simp] theorem State.forgetExpired_points : (s.forgetExpired p n).points = s.points := rfl

@[simp] theorem State.forgetExpired_heads : (s.forgetExpired p n).heads = s.heads := rfl

@[simp] theorem State.forgetExpired_scan : (s.forgetExpired p n).scan = s.scan := rfl

@[simp] theorem State.forgetExpired_ports : (s.forgetExpired p n).ports = s.ports := rfl

@[simp] theorem State.forgetExpired_cond : (s.forgetExpired p n).cond = s.cond := rfl

@[simp] theorem State.forgetExpired_holds : (s.forgetExpired p n).holds = s.holds := rfl

@[simp] theorem State.forgetExpired_changed : (s.forgetExpired p n).changed = s.changed := rfl

@[simp] theorem State.forgetExpired_servedLast :
    (s.forgetExpired p n).servedLast = s.servedLast := rfl

@[simp] theorem State.forgetExpired_attn : (s.forgetExpired p n).attn = s.attn := rfl

@[simp] theorem State.forgetExpired_run : (s.forgetExpired p n).run = s.run := rfl

@[simp] theorem State.forgetExpired_i2cAddress :
    (s.forgetExpired p n).i2cAddress = s.i2cAddress := rfl

@[simp] theorem State.forgetExpired_i2cAcks : (s.forgetExpired p n).i2cAcks = s.i2cAcks := rfl

@[simp] theorem State.forgetExpired_inReset : (s.forgetExpired p n).inReset = s.inReset := rfl

@[simp] theorem State.forgetExpired_poweringUp :
    (s.forgetExpired p n).poweringUp = s.poweringUp := rfl

@[simp] theorem State.forgetExpired_heldInReset :
    (s.forgetExpired p n).heldInReset = s.heldInReset := rfl

@[simp] theorem State.forgetExpired_pending : (s.forgetExpired p n).pending = s.pending := rfl

end

/-! ### mark -/

section

variable (s : State) (n : PointNo)

@[simp] theorem State.mark_points : (s.mark n).points = s.points := rfl

@[simp] theorem State.mark_heads : (s.mark n).heads = s.heads := rfl

@[simp] theorem State.mark_scan : (s.mark n).scan = s.scan := rfl

@[simp] theorem State.mark_ports : (s.mark n).ports = s.ports := rfl

@[simp] theorem State.mark_cond : (s.mark n).cond = s.cond := rfl

@[simp] theorem State.mark_holds : (s.mark n).holds = s.holds := rfl

@[simp] theorem State.mark_changed :
    (s.mark n).changed = s.changed.map fun c => c.put n true := rfl

@[simp] theorem State.mark_cmdPorts : (s.mark n).cmdPorts = s.cmdPorts := rfl

@[simp] theorem State.mark_servedLast : (s.mark n).servedLast = s.servedLast := rfl

@[simp] theorem State.mark_attn : (s.mark n).attn = s.attn := rfl

@[simp] theorem State.mark_run : (s.mark n).run = s.run := rfl

@[simp] theorem State.mark_i2cAddress : (s.mark n).i2cAddress = s.i2cAddress := rfl

@[simp] theorem State.mark_i2cAcks : (s.mark n).i2cAcks = s.i2cAcks := rfl

@[simp] theorem State.mark_inReset : (s.mark n).inReset = s.inReset := rfl

@[simp] theorem State.mark_poweringUp : (s.mark n).poweringUp = s.poweringUp := rfl

@[simp] theorem State.mark_heldInReset : (s.mark n).heldInReset = s.heldInReset := rfl

@[simp] theorem State.mark_pending : (s.mark n).pending = s.pending := rfl

end

/-! ### unmark -/

section

variable (s : State) (n : PointNo)

@[simp] theorem State.unmark_points : (s.unmark n).points = s.points := rfl

@[simp] theorem State.unmark_heads : (s.unmark n).heads = s.heads := rfl

@[simp] theorem State.unmark_scan : (s.unmark n).scan = s.scan := rfl

@[simp] theorem State.unmark_ports : (s.unmark n).ports = s.ports := rfl

@[simp] theorem State.unmark_cond : (s.unmark n).cond = s.cond := rfl

@[simp] theorem State.unmark_holds : (s.unmark n).holds = s.holds := rfl

@[simp] theorem State.unmark_changed :
    (s.unmark n).changed = s.changed.map fun c => c.put n false := rfl

@[simp] theorem State.unmark_cmdPorts : (s.unmark n).cmdPorts = s.cmdPorts := rfl

@[simp] theorem State.unmark_servedLast : (s.unmark n).servedLast = s.servedLast := rfl

@[simp] theorem State.unmark_attn : (s.unmark n).attn = s.attn := rfl

@[simp] theorem State.unmark_run : (s.unmark n).run = s.run := rfl

@[simp] theorem State.unmark_i2cAddress : (s.unmark n).i2cAddress = s.i2cAddress := rfl

@[simp] theorem State.unmark_i2cAcks : (s.unmark n).i2cAcks = s.i2cAcks := rfl

@[simp] theorem State.unmark_inReset : (s.unmark n).inReset = s.inReset := rfl

@[simp] theorem State.unmark_poweringUp : (s.unmark n).poweringUp = s.poweringUp := rfl

@[simp] theorem State.unmark_heldInReset : (s.unmark n).heldInReset = s.heldInReset := rfl

@[simp] theorem State.unmark_pending : (s.unmark n).pending = s.pending := rfl

end

@[simp] theorem State.setMode_mode (s : State) (m : Mode) : (s.setMode m).run.mode = m := rfl

@[simp] theorem State.setMode_wakeGuard (s : State) (m : Mode) :
    (s.setMode m).run.wakeGuard = s.run.wakeGuard := rfl

end Sys2Proof.Machine
end

