-- ==== Sys2Proof/Laws/Table.lean ====
section
/-! SUPPORT. The laws of tables and of pairs: a read after a write, the numbers a test picks out. -/

namespace Sys2Proof.Machine

variable {α β : Type} {n : Nat}

/-! ### Tables -/

theorem Table.ext_get {t u : Table α n} (h : ∀ i, t.get i = u.get i) : t = u := by
  cases t with | mk l hl => cases u with | mk m hm =>
  have : l = m := by
    apply List.ext_getElem (by omega)
    intro i h1 h2
    exact h ⟨i, by omega⟩
  subst this; rfl

@[simp] theorem Table.get_set_self (t : Table α n) (i : Fin n) (x : α) : (t.set i x).get i = x := by
  simp [Table.get, Table.set]

theorem Table.get_set_ne (t : Table α n) {i j : Fin n} (x : α) (h : i ≠ j) :
    (t.set i x).get j = t.get j := by
  have : i.val ≠ j.val := fun e => h (Fin.ext e)
  simp [Table.get, Table.set, this]

theorem Table.get_set (t : Table α n) (i j : Fin n) (x : α) :
    (t.set i x).get j = if i = j then x else t.get j := by
  by_cases h : i = j
  · subst h; simp
  · simp [h, Table.get_set_ne]

@[simp] theorem Table.get_replicate (x : α) (i : Fin n) : (Table.replicate n x).get i = x := by
  simp [Table.get, Table.replicate]

@[simp] theorem Table.get_map (f : α → β) (t : Table α n) (i : Fin n) :
    (t.map f).get i = f (t.get i) := by
  simp [Table.get, Table.map]

@[simp] theorem Table.set_get (t : Table α n) (i : Fin n) : t.set i (t.get i) = t := by
  apply Table.ext_get
  intro j
  rw [Table.get_set]
  split <;> simp_all

@[simp] theorem Table.set_set (t : Table α n) (i : Fin n) (x y : α) :
    (t.set i x).set i y = t.set i y := by
  apply Table.ext_get
  intro j
  simp only [Table.get_set]
  split <;> rfl

theorem Table.list_eq_map_get (t : Table α n) : t.list = (List.finRange n).map t.get := by
  apply List.ext_getElem
  · simp [t.length_eq]
  · intro i h1 h2
    simp [Table.get]

theorem Table.zip_eq (t : Table α n) :
    (List.finRange n).zip t.list = (List.finRange n).map fun i => (i, t.get i) := by
  rw [t.list_eq_map_get]
  simp [List.zip_eq_zipWith, List.zipWith_map_right, List.zipWith_self]

theorem Table.indices_eq (t : Table α n) (f : α → Bool) :
    t.indices f = (List.finRange n).filter fun i => f (t.get i) := by
  unfold Table.indices
  rw [t.zip_eq, List.filter_map, List.map_map]
  exact List.map_id _

@[simp] theorem Table.mem_indices (t : Table α n) (f : α → Bool) (i : Fin n) :
    i ∈ t.indices f ↔ f (t.get i) = true := by
  simp [t.indices_eq]

theorem Table.indices_nodup (t : Table α n) (f : α → Bool) : (t.indices f).Nodup := by
  rw [t.indices_eq]
  exact (List.nodup_finRange n).filter _

theorem Table.first_eq (t : Table α n) (f : α → Bool) :
    t.first f = (List.finRange n).find? fun i => f (t.get i) := by
  unfold Table.first
  rw [t.zip_eq, List.find?_map, Option.map_map]
  simp [Function.comp_def]

theorem Table.first_eq_none (t : Table α n) (f : α → Bool) :
    t.first f = none ↔ ∀ i, f (t.get i) = false := by
  simp [t.first_eq]

/-- The first number at which `f` holds is the lowest. -/
theorem Table.first_eq_some (t : Table α n) (f : α → Bool) (i : Fin n) :
    t.first f = some i ↔ f (t.get i) = true ∧ ∀ j, j < i → f (t.get j) = false := by
  rw [t.first_eq, List.find?_eq_some_iff_getElem]
  constructor
  · rintro ⟨hf, k, hk, rfl, hlt⟩
    refine ⟨hf, fun j hj => ?_⟩
    have hj' : j.val < k := by simpa [Fin.lt_def] using hj
    simpa using hlt j.val hj'
  · rintro ⟨hf, hlt⟩
    refine ⟨hf, i.val, by simp, by simp, fun j hj => ?_⟩
    have : (⟨j, by omega⟩ : Fin n) < i := hj
    simpa using hlt _ this

theorem Table.any_eq_true (t : Table α n) (f : α → Bool) :
    t.any f = true ↔ ∃ i, f (t.get i) = true := by
  unfold Table.any
  rw [t.list_eq_map_get]
  simp

theorem Table.any_eq_false (t : Table α n) (f : α → Bool) :
    t.any f = false ↔ ∀ i, f (t.get i) = false := by
  rw [← Bool.not_eq_true, t.any_eq_true]
  simp

theorem Table.count_eq (t : Table α n) (f : α → Bool) :
    t.count f = ((List.finRange n).filter fun i => f (t.get i)).length := by
  unfold Table.count
  rw [t.list_eq_map_get, List.countP_map, List.countP_eq_length_filter]
  rfl

theorem Table.count_le (t : Table α n) (f : α → Bool) : t.count f ≤ n := by
  have := t.list.countP_le_length (p := f)
  rw [t.length_eq] at this
  exact this

theorem Table.count_eq_zero (t : Table α n) (f : α → Bool) :
    t.count f = 0 ↔ ∀ i, f (t.get i) = false := by
  rw [t.count_eq, List.length_eq_zero_iff, List.filter_eq_nil_iff]
  simp

/-! ### Pairs -/

@[simp] theorem Both.get_set_self (b : Both α) (p : CmdPort) (x : α) : (b.set p x).get p = x := by
  cases p <;> rfl

theorem Both.get_set_ne (b : Both α) {p q : CmdPort} (x : α) (h : p ≠ q) :
    (b.set p x).get q = b.get q := by
  cases p <;> cases q <;> first | rfl | exact absurd rfl h

theorem Both.get_set (b : Both α) (p q : CmdPort) (x : α) :
    (b.set p x).get q = if p = q then x else b.get q := by
  cases p <;> cases q <;> rfl

@[simp] theorem Both.get_map (f : α → α) (b : Both α) (p : CmdPort) : (b.map f).get p = f (b.get p) := by
  cases p <;> rfl

@[simp] theorem Both.set_get (b : Both α) (p : CmdPort) : b.set p (b.get p) = b := by
  cases p <;> rfl

@[simp] theorem Both.set_set (b : Both α) (p : CmdPort) (x y : α) : (b.set p x).set p y = b.set p y := by
  cases p <;> rfl

theorem Both.ext_get {b c : Both α} (h : ∀ p, b.get p = c.get p) : b = c := by
  have h1 := h .host
  have h2 := h .service
  cases b; cases c
  simp_all [Both.get]

end Sys2Proof.Machine
end

