-- ==== Sys2Proof/Laws/Ops.lean ====
section
/-! SUPPORT. What a record, a sample port, a command port and a change set read as after each update. -/

namespace Sys2Proof.Machine

/-! ### Reads that an update does not reach -/

@[simp] theorem State.setPt_port (s : State) (n : PointNo) (x : Point) :
    (s.setPt n x).port = s.port := rfl

@[simp] theorem State.setPt_cmd (s : State) (n : PointNo) (x : Point) :
    (s.setPt n x).cmd = s.cmd := rfl

@[simp] theorem State.setPt_isChanged (s : State) (n : PointNo) (x : Point) :
    (s.setPt n x).isChanged = s.isChanged := rfl

@[simp] theorem State.modPt_port (s : State) (n : PointNo) (f : Point → Point) :
    (s.modPt n f).port = s.port := rfl

@[simp] theorem State.modPt_cmd (s : State) (n : PointNo) (f : Point → Point) :
    (s.modPt n f).cmd = s.cmd := rfl

@[simp] theorem State.modPt_isChanged (s : State) (n : PointNo) (f : Point → Point) :
    (s.modPt n f).isChanged = s.isChanged := rfl

@[simp] theorem State.setNext_port (s : State) (n : PointNo) (h : Option PointNo) :
    (s.setNext n h).port = s.port := rfl

@[simp] theorem State.setNext_cmd (s : State) (n : PointNo) (h : Option PointNo) :
    (s.setNext n h).cmd = s.cmd := rfl

@[simp] theorem State.setNext_isChanged (s : State) (n : PointNo) (h : Option PointNo) :
    (s.setNext n h).isChanged = s.isChanged := rfl

@[simp] theorem State.setHead_pt (s : State) (b : Byte) (h : Option PointNo) :
    (s.setHead b h).pt = s.pt := rfl

@[simp] theorem State.setHead_port (s : State) (b : Byte) (h : Option PointNo) :
    (s.setHead b h).port = s.port := rfl

@[simp] theorem State.setHead_cmd (s : State) (b : Byte) (h : Option PointNo) :
    (s.setHead b h).cmd = s.cmd := rfl

@[simp] theorem State.setHead_isChanged (s : State) (b : Byte) (h : Option PointNo) :
    (s.setHead b h).isChanged = s.isChanged := rfl

@[simp] theorem State.setPort_pt (s : State) (i : PortNo) (x : SamplePort) :
    (s.setPort i x).pt = s.pt := rfl

@[simp] theorem State.setPort_cmd (s : State) (i : PortNo) (x : SamplePort) :
    (s.setPort i x).cmd = s.cmd := rfl

@[simp] theorem State.setPort_isChanged (s : State) (i : PortNo) (x : SamplePort) :
    (s.setPort i x).isChanged = s.isChanged := rfl

@[simp] theorem State.modPort_pt (s : State) (i : PortNo) (f : SamplePort → SamplePort) :
    (s.modPort i f).pt = s.pt := rfl

@[simp] theorem State.modPort_cmd (s : State) (i : PortNo) (f : SamplePort → SamplePort) :
    (s.modPort i f).cmd = s.cmd := rfl

@[simp] theorem State.modPort_isChanged (s : State) (i : PortNo) (f : SamplePort → SamplePort) :
    (s.modPort i f).isChanged = s.isChanged := rfl

@[simp] theorem State.setCmd_pt (s : State) (p : CmdPort) (x : CommandPort) :
    (s.setCmd p x).pt = s.pt := rfl

@[simp] theorem State.setCmd_port (s : State) (p : CmdPort) (x : CommandPort) :
    (s.setCmd p x).port = s.port := rfl

@[simp] theorem State.setCmd_isChanged (s : State) (p : CmdPort) (x : CommandPort) :
    (s.setCmd p x).isChanged = s.isChanged := rfl

@[simp] theorem State.modCmd_pt (s : State) (p : CmdPort) (f : CommandPort → CommandPort) :
    (s.modCmd p f).pt = s.pt := rfl

@[simp] theorem State.modCmd_port (s : State) (p : CmdPort) (f : CommandPort → CommandPort) :
    (s.modCmd p f).port = s.port := rfl

@[simp] theorem State.modCmd_isChanged (s : State) (p : CmdPort) (f : CommandPort → CommandPort) :
    (s.modCmd p f).isChanged = s.isChanged := rfl

@[simp] theorem State.modScan_pt (s : State) (f : Scan → Scan) :
    (s.modScan f).pt = s.pt := rfl

@[simp] theorem State.modScan_port (s : State) (f : Scan → Scan) :
    (s.modScan f).port = s.port := rfl

@[simp] theorem State.modScan_cmd (s : State) (f : Scan → Scan) :
    (s.modScan f).cmd = s.cmd := rfl

@[simp] theorem State.modScan_isChanged (s : State) (f : Scan → Scan) :
    (s.modScan f).isChanged = s.isChanged := rfl

@[simp] theorem State.modCond_pt (s : State) (f : CondUnit → CondUnit) :
    (s.modCond f).pt = s.pt := rfl

@[simp] theorem State.modCond_port (s : State) (f : CondUnit → CondUnit) :
    (s.modCond f).port = s.port := rfl

@[simp] theorem State.modCond_cmd (s : State) (f : CondUnit → CondUnit) :
    (s.modCond f).cmd = s.cmd := rfl

@[simp] theorem State.modCond_isChanged (s : State) (f : CondUnit → CondUnit) :
    (s.modCond f).isChanged = s.isChanged := rfl

@[simp] theorem State.modAttn_pt (s : State) (f : Attention → Attention) :
    (s.modAttn f).pt = s.pt := rfl

@[simp] theorem State.modAttn_port (s : State) (f : Attention → Attention) :
    (s.modAttn f).port = s.port := rfl

@[simp] theorem State.modAttn_cmd (s : State) (f : Attention → Attention) :
    (s.modAttn f).cmd = s.cmd := rfl

@[simp] theorem State.modAttn_isChanged (s : State) (f : Attention → Attention) :
    (s.modAttn f).isChanged = s.isChanged := rfl

@[simp] theorem State.setHolds_pt (s : State) (hs : List HoldRecord) :
    (s.setHolds hs).pt = s.pt := rfl

@[simp] theorem State.setHolds_port (s : State) (hs : List HoldRecord) :
    (s.setHolds hs).port = s.port := rfl

@[simp] theorem State.setHolds_cmd (s : State) (hs : List HoldRecord) :
    (s.setHolds hs).cmd = s.cmd := rfl

@[simp] theorem State.setHolds_isChanged (s : State) (hs : List HoldRecord) :
    (s.setHolds hs).isChanged = s.isChanged := rfl

@[simp] theorem State.setChanged_pt (s : State) (c : Both ChangeSet) :
    (s.setChanged c).pt = s.pt := rfl

@[simp] theorem State.setChanged_port (s : State) (c : Both ChangeSet) :
    (s.setChanged c).port = s.port := rfl

@[simp] theorem State.setChanged_cmd (s : State) (c : Both ChangeSet) :
    (s.setChanged c).cmd = s.cmd := rfl

@[simp] theorem State.setServed_pt (s : State) (p : CmdPort) :
    (s.setServed p).pt = s.pt := rfl

@[simp] theorem State.setServed_port (s : State) (p : CmdPort) :
    (s.setServed p).port = s.port := rfl

@[simp] theorem State.setServed_cmd (s : State) (p : CmdPort) :
    (s.setServed p).cmd = s.cmd := rfl

@[simp] theorem State.setServed_isChanged (s : State) (p : CmdPort) :
    (s.setServed p).isChanged = s.isChanged := rfl

@[simp] theorem State.setRun_pt (s : State) (r : RunControl) :
    (s.setRun r).pt = s.pt := rfl

@[simp] theorem State.setRun_port (s : State) (r : RunControl) :
    (s.setRun r).port = s.port := rfl

@[simp] theorem State.setRun_cmd (s : State) (r : RunControl) :
    (s.setRun r).cmd = s.cmd := rfl

@[simp] theorem State.setRun_isChanged (s : State) (r : RunControl) :
    (s.setRun r).isChanged = s.isChanged := rfl

@[simp] theorem State.setMode_pt (s : State) (m : Mode) :
    (s.setMode m).pt = s.pt := rfl

@[simp] theorem State.setMode_port (s : State) (m : Mode) :
    (s.setMode m).port = s.port := rfl

@[simp] theorem State.setMode_cmd (s : State) (m : Mode) :
    (s.setMode m).cmd = s.cmd := rfl

@[simp] theorem State.setMode_isChanged (s : State) (m : Mode) :
    (s.setMode m).isChanged = s.isChanged := rfl

@[simp] theorem State.forgetExpired_pt (s : State) (p : CmdPort) (n : PointNo) :
    (s.forgetExpired p n).pt = s.pt := rfl

@[simp] theorem State.forgetExpired_port (s : State) (p : CmdPort) (n : PointNo) :
    (s.forgetExpired p n).port = s.port := rfl

@[simp] theorem State.forgetExpired_isChanged (s : State) (p : CmdPort) (n : PointNo) :
    (s.forgetExpired p n).isChanged = s.isChanged := rfl

@[simp] theorem State.mark_pt (s : State) (n : PointNo) :
    (s.mark n).pt = s.pt := rfl

@[simp] theorem State.mark_port (s : State) (n : PointNo) :
    (s.mark n).port = s.port := rfl

@[simp] theorem State.mark_cmd (s : State) (n : PointNo) :
    (s.mark n).cmd = s.cmd := rfl

@[simp] theorem State.unmark_pt (s : State) (n : PointNo) :
    (s.unmark n).pt = s.pt := rfl

@[simp] theorem State.unmark_port (s : State) (n : PointNo) :
    (s.unmark n).port = s.port := rfl

@[simp] theorem State.unmark_cmd (s : State) (n : PointNo) :
    (s.unmark n).cmd = s.cmd := rfl

/-! ### Reads that an update reaches -/

theorem State.setPt_pt (s : State) (n m : PointNo) (x : Point) :
    (s.setPt n x).pt m = if n = m then x else s.pt m := Table.get_set ..

@[simp] theorem State.setPt_pt_self (s : State) (n : PointNo) (x : Point) : (s.setPt n x).pt n = x :=
  Table.get_set_self ..

theorem State.setPt_pt_ne (s : State) {n m : PointNo} (x : Point) (h : n ≠ m) :
    (s.setPt n x).pt m = s.pt m := Table.get_set_ne _ _ h

theorem State.modPt_pt (s : State) (n m : PointNo) (f : Point → Point) :
    (s.modPt n f).pt m = if n = m then f (s.pt n) else s.pt m := Table.get_set ..

@[simp] theorem State.modPt_pt_self (s : State) (n : PointNo) (f : Point → Point) :
    (s.modPt n f).pt n = f (s.pt n) := Table.get_set_self ..

theorem State.modPt_pt_ne (s : State) {n m : PointNo} (f : Point → Point) (h : n ≠ m) :
    (s.modPt n f).pt m = s.pt m := Table.get_set_ne _ _ h

theorem State.setNext_pt (s : State) (n m : PointNo) (h : Option PointNo) :
    (s.setNext n h).pt m = if n = m then { s.pt n with next := h } else s.pt m := Table.get_set ..

theorem State.setPort_port (s : State) (i j : PortNo) (x : SamplePort) :
    (s.setPort i x).port j = if i = j then x else s.port j := Table.get_set ..

theorem State.modPort_port (s : State) (i j : PortNo) (f : SamplePort → SamplePort) :
    (s.modPort i f).port j = if i = j then f (s.port i) else s.port j := Table.get_set ..

@[simp] theorem State.modPort_port_self (s : State) (i : PortNo) (f : SamplePort → SamplePort) :
    (s.modPort i f).port i = f (s.port i) := Table.get_set_self ..

theorem State.modPort_port_ne (s : State) {i j : PortNo} (f : SamplePort → SamplePort) (h : i ≠ j) :
    (s.modPort i f).port j = s.port j := Table.get_set_ne _ _ h

theorem State.modCmd_cmd (s : State) (p q : CmdPort) (f : CommandPort → CommandPort) :
    (s.modCmd p f).cmd q = if p = q then f (s.cmd p) else s.cmd q := Both.get_set ..

@[simp] theorem State.modCmd_cmd_self (s : State) (p : CmdPort) (f : CommandPort → CommandPort) :
    (s.modCmd p f).cmd p = f (s.cmd p) := Both.get_set_self ..

theorem State.modCmd_cmd_ne (s : State) {p q : CmdPort} (f : CommandPort → CommandPort) (h : p ≠ q) :
    (s.modCmd p f).cmd q = s.cmd q := Both.get_set_ne _ _ h

theorem State.forgetExpired_cmd (s : State) (p q : CmdPort) (n : PointNo) :
    (s.forgetExpired p n).cmd q =
      if p = q ∧ (s.cmd p).lastExpired = some n then { s.cmd p with lastExpired := none }
      else s.cmd q := by
  unfold State.forgetExpired
  rw [State.modCmd_cmd]
  by_cases h : p = q
  · subst h; split <;> simp_all
  · simp [h]

theorem State.mark_isChanged (s : State) (n m : PointNo) (p : CmdPort) :
    (s.mark n).isChanged p m = if n = m then true else s.isChanged p m := by
  simp only [State.isChanged, State.mark_changed, Both.get_map, ChangeSet.put]
  exact Table.get_set ..

theorem State.unmark_isChanged (s : State) (n m : PointNo) (p : CmdPort) :
    (s.unmark n).isChanged p m = if n = m then false else s.isChanged p m := by
  simp only [State.isChanged, State.unmark_changed, Both.get_map, ChangeSet.put]
  exact Table.get_set ..

/-- A change of the change sets by `put` leaves the cursors. -/
@[simp] theorem State.mark_cursor (s : State) (n : PointNo) (p : CmdPort) :
    ((s.mark n).changed.get p).cursor = (s.changed.get p).cursor := by
  simp [ChangeSet.put]

@[simp] theorem State.unmark_cursor (s : State) (n : PointNo) (p : CmdPort) :
    ((s.unmark n).changed.get p).cursor = (s.changed.get p).cursor := by
  simp [ChangeSet.put]

/-! ### The tag index -/

theorem State.setHead_head (s : State) (b c : Byte) (h : Option PointNo) :
    (s.setHead b h).head c = if b = c then h else s.head c := by
  have e : (bucketNo b = bucketNo c) = (b = c) := by
    simp only [bucketNo, Fin.mk.injEq, eq_iff_iff]
    exact ⟨BitVec.eq_of_toNat_eq, fun h => by rw [h]⟩
  unfold State.head
  simp only [State.setHead_heads, Table.get_set, e]

/-- A record named by number resolves exactly to the named record with that number (R29). -/
theorem State.resolveNumber_eq_some (s : State) (k : Nat) (n : PointNo) :
    s.resolveNumber k = some n ↔ k = n.val ∧ (s.pt n).state.named = true := by
  unfold State.resolveNumber
  split
  · split
    · constructor
      · intro h; cases h; exact ⟨rfl, ‹_›⟩
      · rintro ⟨rfl, _⟩; rfl
    · constructor
      · intro h; cases h
      · rintro ⟨rfl, h⟩; exact absurd h ‹_›
  · constructor
    · intro h; cases h
    · rintro ⟨rfl, _⟩; exact absurd n.isLt ‹_›

/-- A walk that ends at a record has compared its tag (R25). -/
theorem chainFind_tag (s : State) (t : Tag) :
    ∀ (fuel : Nat) (h : Option PointNo) (n : PointNo), chainFind s t fuel h = some n → (s.pt n).tag = t
  | 0, _, _, e => by simp [chainFind] at e
  | _ + 1, none, _, e => by simp [chainFind] at e
  | fuel + 1, some m, n, e => by
    unfold chainFind at e
    split at e
    · cases e; assumption
    · exact chainFind_tag s t fuel _ n e

/-- A lookup that finds a record finds one that carries the tag, and the tag is not 0 (R25, R29). -/
theorem State.lookup_tag (s : State) (t : Tag) (n : PointNo) (h : s.lookup t = some n) :
    (s.pt n).tag = t ∧ t ≠ 0#32 := by
  unfold State.lookup at h
  split at h
  · cases h
  · exact ⟨chainFind_tag s t _ _ n h, ‹_›⟩

end Sys2Proof.Machine
end

