-- ==== Sys2Proof/Laws/Engine.lean ====
section
/-! SUPPORT. The scan engine's part of an event: what one move is, what it cannot touch, and that the moves
come to rest. -/

namespace Sys2Proof.Machine

/-! ### One induction over the moves -/

/-- A property that every move keeps is kept by the moves of an event. -/
theorem settleWithin_induct {P : State → Prop}
    (hm : ∀ s t, s.engineMove = some t → P s → P t) :
    ∀ (fuel : Nat) (s : State), P s → P (settleWithin fuel s)
  | 0, _, h => h
  | fuel + 1, s, h => by
    unfold settleWithin
    split
    · exact settleWithin_induct hm fuel _ (hm s _ ‹_› h)
    · exact h

/-- A property that every move keeps is kept by `settle`. -/
theorem State.settle_induct {P : State → Prop} (hm : ∀ s t, s.engineMove = some t → P s → P t)
    {s : State} (h : P s) : P s.settle :=
  settleWithin_induct hm _ s h

/-- A state with nothing to do is left as it is. -/
theorem State.settle_of_settled {s : State} (h : s.engineMove = none) : s.settle = s := by
  unfold State.settle
  have : s.scan.moveBound = (s.scan.moveBound - 1) + 1 := by unfold Scan.moveBound; omega
  rw [this, settleWithin, h]

/-- What one move of the engine is: a pass-end, a run end, or one line of the table of R65 at a cursor in
force. -/
theorem State.engineMove_cases {s t : State} (h : s.engineMove = some t) :
    (s.scan.passOver = true ∧ t = s.passEnd false)
      ∨ (s.scan.passOver = false ∧ s.scan.runOver = true ∧ t = s.runEnd)
      ∨ ∃ o n, s.scan.passOver = false ∧ s.scan.runOver = false ∧ s.scan.inForce = some o
          ∧ cursorPoint (s.scan.entries o) = some n
          ∧ ((s.examine n = .skipped ∧ t = s.resolveAtCursor o .skipped)
            ∨ (s.examine n = .faulted ∧ t = (s.resolveAtCursor o .faulted).faultPoint n)
            ∨ (s.examine n = .dispatched ∧ t = s.dispatch o n)) := by
  unfold State.engineMove at h
  split at h
  · cases h; exact .inl ⟨‹_›, rfl⟩
  · rename_i h1
    have h1 : s.scan.passOver = false := by simpa using h1
    split at h
    · cases h; exact .inr (.inl ⟨h1, ‹_›, rfl⟩)
    · rename_i h2
      have h2 : s.scan.runOver = false := by simpa using h2
      split at h
      · rename_i o ho
        unfold State.examineCursor at h
        split at h
        · cases h
        · rename_i n hn
          refine .inr (.inr ⟨o, n, h1, h2, ho, hn, ?_⟩)
          split at h <;> cases h <;> simp_all
      · cases h

/-! ### What the engine leaves -/

/-- What no move of the engine writes in a record. -/
structure Point.EngineKeeps (x y : Point) : Prop where
  state : y.state = x.state
  tag : y.tag = x.tag
  revision : y.revision = x.revision
  next : y.next = x.next
  raw : y.raw = x.raw
  value : y.value = x.value
  level : y.level = x.level
  peak : y.peak = x.peak
  unlisted : y.unlisted = x.unlisted

/-- What no move of the engine writes at a sample port. -/
structure SamplePort.EngineKeeps (x y : SamplePort) : Prop where
  enable : y.enable = x.enable
  timeout : y.timeout = x.timeout
  timeoutCount : y.timeoutCount = x.timeoutCount
  strayCount : y.strayCount = x.strayCount
  cls : y.cls = x.cls
  absent : y.absent = x.absent

/-- What the scan engine leaves as it is in every move. -/
structure EngineKeeps (s t : State) : Prop where
  points : ∀ n, (s.pt n).EngineKeeps (t.pt n)
  heads : t.heads = s.heads
  ports : ∀ i, (s.port i).EngineKeeps (t.port i)
  cond : t.cond = s.cond
  holds : t.holds = s.holds
  cmdPorts : t.cmdPorts = s.cmdPorts
  servedLast : t.servedLast = s.servedLast
  mask : t.attn.mask = s.attn.mask
  overrun : t.attn.overrun = s.attn.overrun
  prioLost : t.attn.prioLost = s.attn.prioLost
  holdExpired : t.attn.holdExpired = s.attn.holdExpired
  run : t.run = s.run
  i2cAddress : t.i2cAddress = s.i2cAddress
  i2cAcks : t.i2cAcks = s.i2cAcks
  inReset : t.inReset = s.inReset
  poweringUp : t.poweringUp = s.poweringUp
  pending : t.pending = s.pending
  scanMode : t.scan.scanMode = s.scan.scanMode
  period : t.scan.period = s.scan.period
  trigger : t.scan.trigger = s.scan.trigger

theorem Point.EngineKeeps.refl (x : Point) : x.EngineKeeps x := by constructor <;> rfl

theorem Point.EngineKeeps.trans {x y z : Point} (h : x.EngineKeeps y) (k : y.EngineKeeps z) :
    x.EngineKeeps z := by
  constructor <;> first
    | exact k.state.trans h.state | exact k.tag.trans h.tag | exact k.revision.trans h.revision
    | exact k.next.trans h.next | exact k.raw.trans h.raw | exact k.value.trans h.value
    | exact k.level.trans h.level | exact k.peak.trans h.peak | exact k.unlisted.trans h.unlisted

theorem SamplePort.EngineKeeps.refl (x : SamplePort) : x.EngineKeeps x := by constructor <;> rfl

theorem SamplePort.EngineKeeps.trans {x y z : SamplePort} (h : x.EngineKeeps y) (k : y.EngineKeeps z) :
    x.EngineKeeps z := by
  constructor <;> first
    | exact k.enable.trans h.enable | exact k.timeout.trans h.timeout
    | exact k.timeoutCount.trans h.timeoutCount | exact k.strayCount.trans h.strayCount
    | exact k.cls.trans h.cls | exact k.absent.trans h.absent

theorem EngineKeeps.refl (s : State) : EngineKeeps s s := by
  constructor <;> first | rfl | exact fun _ => Point.EngineKeeps.refl _ | exact fun _ => SamplePort.EngineKeeps.refl _

theorem EngineKeeps.trans {s t u : State} (h : EngineKeeps s t) (k : EngineKeeps t u) :
    EngineKeeps s u := by
  constructor <;> first
    | exact fun n => (h.points n).trans (k.points n) | exact fun i => (h.ports i).trans (k.ports i)
    | exact k.heads.trans h.heads | exact k.cond.trans h.cond | exact k.holds.trans h.holds
    | exact k.cmdPorts.trans h.cmdPorts | exact k.servedLast.trans h.servedLast
    | exact k.mask.trans h.mask | exact k.overrun.trans h.overrun | exact k.prioLost.trans h.prioLost
    | exact k.holdExpired.trans h.holdExpired | exact k.run.trans h.run
    | exact k.i2cAddress.trans h.i2cAddress | exact k.i2cAcks.trans h.i2cAcks
    | exact k.inReset.trans h.inReset | exact k.poweringUp.trans h.poweringUp
    | exact k.pending.trans h.pending | exact k.scanMode.trans h.scanMode
    | exact k.period.trans h.period | exact k.trigger.trans h.trigger

/-- A change of one record within what the engine may write. -/
theorem EngineKeeps.modPt {s : State} {n : PointNo} {f : Point → Point}
    (h : (s.pt n).EngineKeeps (f (s.pt n))) : EngineKeeps s (s.modPt n f) := by
  constructor <;> first
    | rfl
    | exact fun _ => SamplePort.EngineKeeps.refl _
    | (intro m; rw [State.modPt_pt]; split
       · subst_vars; exact h
       · exact Point.EngineKeeps.refl _)

/-- A change of one sample port within what the engine may write. -/
theorem EngineKeeps.modPort {s : State} {i : PortNo} {f : SamplePort → SamplePort}
    (h : (s.port i).EngineKeeps (f (s.port i))) : EngineKeeps s (s.modPort i f) := by
  constructor <;> first
    | rfl
    | exact fun _ => Point.EngineKeeps.refl _
    | (intro m; rw [State.modPort_port]; split
       · subst_vars; exact h
       · exact SamplePort.EngineKeeps.refl _)

/-- A change of the scan engine within what a move may write. -/
theorem EngineKeeps.modScan {s : State} {f : Scan → Scan} (h1 : (f s.scan).scanMode = s.scan.scanMode)
    (h2 : (f s.scan).period = s.scan.period) (h3 : (f s.scan).trigger = s.scan.trigger) :
    EngineKeeps s (s.modScan f) := by
  constructor <;> first
    | rfl | exact h1 | exact h2 | exact h3
    | exact fun _ => Point.EngineKeeps.refl _ | exact fun _ => SamplePort.EngineKeeps.refl _

theorem EngineKeeps.mark (s : State) (n : PointNo) : EngineKeeps s (s.mark n) := by
  constructor <;> first
    | rfl | exact fun _ => Point.EngineKeeps.refl _ | exact fun _ => SamplePort.EngineKeeps.refl _

theorem Scan.setEntries_config (c : Scan) (o : Origin) (es : List Entry) :
    (c.setEntries o es).scanMode = c.scanMode ∧ (c.setEntries o es).period = c.period
      ∧ (c.setEntries o es).trigger = c.trigger := by
  cases o <;> exact ⟨rfl, rfl, rfl⟩

theorem EngineKeeps.resolveAtCursor (s : State) (o : Origin) (out : EntryOutcome) :
    EngineKeeps s (s.resolveAtCursor o out) :=
  .modScan (s.scan.setEntries_config ..).1 (s.scan.setEntries_config ..).2.1
    (s.scan.setEntries_config ..).2.2

theorem EngineKeeps.handOver (s : State) (o : Origin) (n : PointNo) (out : EntryOutcome) :
    EngineKeeps s (s.handOver o n out) :=
  .modScan (s.scan.setEntries_config ..).1 (s.scan.setEntries_config ..).2.1
    (s.scan.setEntries_config ..).2.2

theorem EngineKeeps.faultPoint (s : State) (n : PointNo) : EngineKeeps s (s.faultPoint n) :=
  (EngineKeeps.modPt (by constructor <;> rfl)).trans (.mark ..)

theorem EngineKeeps.dispatch (s : State) (o : Origin) (n : PointNo) :
    EngineKeeps s (s.dispatch o n) := by
  unfold State.dispatch
  refine ((EngineKeeps.resolveAtCursor s o .inFlight).trans (EngineKeeps.modPt ?_)).trans
    (EngineKeeps.modPort ?_) <;> constructor <;> rfl

theorem EngineKeeps.supersede (s : State) (n : PointNo) : EngineKeeps s (s.supersede n) := by
  unfold State.supersede
  split
  · exact .modPort (by constructor <;> rfl)
  · exact .refl s

theorem EngineKeeps.routeEffects (s : State) (n : PointNo) : EngineKeeps s (s.routeEffects n) := by
  unfold State.routeEffects
  refine EngineKeeps.trans ?_ (.supersede ..)
  split
  · exact .modPt (by constructor <;> rfl)
  · exact (EngineKeeps.modPt (by constructor <;> rfl)).trans (.mark ..)

theorem EngineKeeps.writeActive (s : State) (n : PointNo) (pr : Profile) :
    EngineKeeps s (s.writeActive n pr) := by
  unfold State.writeActive
  have h1 : EngineKeeps s (s.modPt n fun x => { x with active := pr }) :=
    .modPt (by constructor <;> rfl)
  have h2 : EngineKeeps s
      (if (s.pt n).active.scale = pr.scale then s.modPt n fun x => { x with active := pr }
        else (s.modPt n fun x => { x with active := pr }).modPt n fun x => { x with seeded := false }) := by
    split
    · exact h1
    · exact h1.trans (.modPt (by constructor <;> rfl))
  simp only
  split
  · exact h2
  · exact h2.trans (.routeEffects ..)

theorem EngineKeeps.promotePoint (s : State) (n : PointNo) : EngineKeeps s (s.promotePoint n) := by
  unfold State.promotePoint
  split
  · exact (EngineKeeps.modPt (by constructor <;> rfl)).trans (.writeActive ..)
  · exact .refl s

/-- What every member of a list keeps, the list keeps. -/
theorem EngineKeeps.foldl {α : Type} {f : State → α → State} (hf : ∀ s a, EngineKeeps s (f s a))
    (l : List α) (s : State) : EngineKeeps s (l.foldl f s) := by
  induction l generalizing s with
  | nil => exact .refl s
  | cons a l ih => exact (hf s a).trans (ih _)

theorem EngineKeeps.promoteProfiles (s : State) : EngineKeeps s s.promoteProfiles :=
  .foldl EngineKeeps.promotePoint _ s

theorem EngineKeeps.agePoint (s : State) (n : PointNo) : EngineKeeps s (s.agePoint n) := by
  have h : ∀ y : Point, (s.pt n).EngineKeeps y → EngineKeeps s (s.setPt n y) := fun y hy =>
    EngineKeeps.modPt (f := fun _ => y) hy
  unfold State.agePoint
  split
  · simp only
    split
    · exact (h _ (by constructor <;> rfl)).trans (.mark ..)
    · exact h _ (by constructor <;> rfl)
  · exact .refl s

theorem EngineKeeps.ageEntries (s : State) (es : List Entry) : EngineKeeps s (s.ageEntries es) :=
  EngineKeeps.foldl (f := fun (t : State) (e : Entry) => t.agePoint e.point)
    (fun t e => EngineKeeps.agePoint t e.point) es s

theorem Scan.promoteList_config (c : Scan) :
    c.promoteList.scanMode = c.scanMode ∧ c.promoteList.period = c.period
      ∧ c.promoteList.trigger = c.trigger := by
  unfold Scan.promoteList
  split <;> exact ⟨rfl, rfl, rfl⟩

theorem EngineKeeps.promote (s : State) : EngineKeeps s s.promote :=
  (EngineKeeps.promoteProfiles s).trans
    (.modScan (Scan.promoteList_config _).1 (Scan.promoteList_config _).2.1
      (Scan.promoteList_config _).2.2)

theorem Scan.afterPass_config (c : Scan) (halted : Bool) :
    (c.afterPass halted).scanMode = c.scanMode ∧ (c.afterPass halted).period = c.period
      ∧ (c.afterPass halted).trigger = c.trigger := by
  unfold Scan.afterPass
  split
  · exact ⟨rfl, rfl, rfl⟩
  · split <;> exact ⟨rfl, rfl, rfl⟩

theorem EngineKeeps.passEnd (s : State) (halted : Bool) : EngineKeeps s (s.passEnd halted) := by
  unfold State.passEnd
  have h1 := (EngineKeeps.promoteProfiles s).trans (.ageEntries _ s.scan.active)
  have h2 := h1.trans
    (.modScan (f := Scan.promoteList) (Scan.promoteList_config _).1 (Scan.promoteList_config _).2.1
      (Scan.promoteList_config _).2.2)
  refine h2.trans (.modScan ?_ ?_ ?_)
  · exact (Scan.afterPass_config ..).1
  · exact (Scan.afterPass_config ..).2.1
  · exact (Scan.afterPass_config ..).2.2

theorem EngineKeeps.runEnd (s : State) : EngineKeeps s s.runEnd := by
  have h : EngineKeeps s (s.modAttn fun a => { a with prioDone := true }) := by
    constructor <;> first
      | rfl | exact fun _ => Point.EngineKeeps.refl _ | exact fun _ => SamplePort.EngineKeeps.refl _
  unfold State.runEnd
  refine h.trans (.modScan ?_ ?_ ?_) <;> split <;> rfl

/-- One move of the engine writes nothing but what `EngineKeeps` leaves open. -/
theorem State.engineMove_keeps {s t : State} (h : s.engineMove = some t) : EngineKeeps s t := by
  rcases State.engineMove_cases h with
    ⟨_, rfl⟩ | ⟨_, _, rfl⟩ | ⟨o, n, _, _, _, _, ⟨_, rfl⟩ | ⟨_, rfl⟩ | ⟨_, rfl⟩⟩
  · exact .passEnd ..
  · exact .runEnd ..
  · exact .resolveAtCursor ..
  · exact (EngineKeeps.resolveAtCursor ..).trans (.faultPoint ..)
  · exact .dispatch ..

/-- The engine's part of an event writes nothing but what `EngineKeeps` leaves open. -/
theorem State.settle_keeps (s : State) : EngineKeeps s s.settle :=
  State.settle_induct (P := EngineKeeps s) (fun _ _ h hs => hs.trans (State.engineMove_keeps h)) (.refl s)

@[simp] theorem State.settle_heads (s : State) : s.settle.heads = s.heads := s.settle_keeps.heads

@[simp] theorem State.settle_cond (s : State) : s.settle.cond = s.cond := s.settle_keeps.cond

@[simp] theorem State.settle_holds (s : State) : s.settle.holds = s.holds := s.settle_keeps.holds

@[simp] theorem State.settle_cmdPorts (s : State) : s.settle.cmdPorts = s.cmdPorts :=
  s.settle_keeps.cmdPorts

@[simp] theorem State.settle_cmd (s : State) : s.settle.cmd = s.cmd := by
  funext p; simp [State.cmd]

@[simp] theorem State.settle_servedLast (s : State) : s.settle.servedLast = s.servedLast :=
  s.settle_keeps.servedLast

@[simp] theorem State.settle_run (s : State) : s.settle.run = s.run := s.settle_keeps.run

@[simp] theorem State.settle_i2cAddress (s : State) : s.settle.i2cAddress = s.i2cAddress :=
  s.settle_keeps.i2cAddress

@[simp] theorem State.settle_i2cAcks (s : State) : s.settle.i2cAcks = s.i2cAcks := s.settle_keeps.i2cAcks

@[simp] theorem State.settle_inReset (s : State) : s.settle.inReset = s.inReset := s.settle_keeps.inReset

@[simp] theorem State.settle_poweringUp (s : State) : s.settle.poweringUp = s.poweringUp :=
  s.settle_keeps.poweringUp

@[simp] theorem State.settle_heldInReset (s : State) : s.settle.heldInReset = s.heldInReset := by
  simp [State.heldInReset]

@[simp] theorem State.settle_pending (s : State) : s.settle.pending = s.pending := s.settle_keeps.pending

@[simp] theorem State.settle_state (s : State) (n : PointNo) : (s.settle.pt n).state = (s.pt n).state :=
  (s.settle_keeps.points n).state

/-! ### The moves come to rest -/

/-- The number of PENDING entries of a list. -/
def pendingCount (es : List Entry) : Nat := es.countP fun e => e.outcome == .pending

/-- What is left for the engine to do: the PENDING entries and the ends of the pass in progress and of
the one the late mark starts, of the run in progress and of a held rerun. -/
def Scan.work (c : Scan) : Nat :=
  (if c.scanner = .pass then
      pendingCount c.active + 1
        + (if c.late then ((c.staged.getD (c.active.map Entry.point)).length + 1) else 0)
    else 0)
    + (if c.prioActive then
        pendingCount c.prio + 1 + (if c.rerun then c.prio.length + 1 else 0)
      else 0)

theorem pendingCount_le (es : List Entry) : pendingCount es ≤ es.length := List.countP_le_length

theorem pendingCount_setOutcomes (es : List Entry) :
    pendingCount (setOutcomes .pending es) = es.length := by
  simp [pendingCount, setOutcomes, List.countP_map, Function.comp_def]

theorem Scan.work_le_moveBound (c : Scan) : c.work ≤ c.moveBound := by
  have h1 := pendingCount_le c.active
  have h2 := pendingCount_le c.prio
  have h3 : (c.staged.getD (c.active.map Entry.point)).length
      ≤ c.active.length + (c.staged.getD []).length := by
    cases c.staged <;> simp
  unfold Scan.work Scan.moveBound
  split <;> split <;> try split
  all_goals (try split) <;> omega

/-- Resolving at the cursor takes one PENDING entry. -/
theorem pendingCount_resolveCursor {out : EntryOutcome} (ho : out ≠ .pending) :
    ∀ {es : List Entry} {n : PointNo}, cursorPoint es = some n →
      pendingCount (resolveCursor out es) + 1 = pendingCount es
  | [], n, h => by simp [cursorPoint] at h
  | e :: es, n, h => by
    unfold resolveCursor
    by_cases he : e.outcome = .pending
    · simp [pendingCount, he, ho]
    · have h' : cursorPoint es = some n := by simpa [cursorPoint, he] using h
      have := pendingCount_resolveCursor ho h'
      simpa [pendingCount, he] using this

theorem length_resolveCursor (out : EntryOutcome) (es : List Entry) :
    (resolveCursor out es).length = es.length := by
  induction es with
  | nil => rfl
  | cons e es ih => unfold resolveCursor; split <;> simp [ih]

/-- The points of a list are those before its cursor was resolved. -/
theorem resolveCursor_points (out : EntryOutcome) (es : List Entry) :
    (resolveCursor out es).map Entry.point = es.map Entry.point := by
  induction es with
  | nil => rfl
  | cons e es ih => unfold resolveCursor; split <;> simp [ih]

theorem State.promoteProfiles_scan (s : State) : s.promoteProfiles.scan = s.scan := by
  have sup : ∀ (s : State) n, (s.supersede n).scan = s.scan := by
    intro s n; unfold State.supersede; split <;> rfl
  have hr : ∀ (s : State) n, (s.routeEffects n).scan = s.scan := by
    intro s n; unfold State.routeEffects; simp only; rw [sup]; split <;> rfl
  have hw : ∀ (s : State) n pr, (s.writeActive n pr).scan = s.scan := by
    intro s n pr; unfold State.writeActive; simp only
    split <;> split <;> simp [hr]
  have hp : ∀ (s : State) n, (s.promotePoint n).scan = s.scan := by
    intro s n; unfold State.promotePoint; split
    · rw [hw]; rfl
    · rfl
  have : ∀ (l : List PointNo) (s : State), (l.foldl State.promotePoint s).scan = s.scan := by
    intro l; induction l with
    | nil => intro s; rfl
    | cons a l ih => intro s; rw [List.foldl_cons, ih, hp]
  exact this _ s

theorem State.agePoint_scan (s : State) (n : PointNo) : (s.agePoint n).scan = s.scan := by
  unfold State.agePoint
  split
  · simp only; split <;> rfl
  · rfl

theorem State.ageEntries_scan (s : State) (es : List Entry) : (s.ageEntries es).scan = s.scan := by
  unfold State.ageEntries
  induction es generalizing s with
  | nil => rfl
  | cons e es ih => rw [List.foldl_cons, ih, State.agePoint_scan]

/-- The scan engine after a pass-end (R68, R69). -/
theorem State.passEnd_scan (s : State) (halted : Bool) :
    (s.passEnd halted).scan =
      { s.scan.promoteList with
          passCounter := s.scan.promoteList.passCounter + 1#16, cym := true }.afterPass halted := by
  simp [State.passEnd, State.ageEntries_scan, State.promoteProfiles_scan]

theorem pendingCount_closed {es : List Entry} (h : es.any Entry.isOpen = false) :
    pendingCount es = 0 := by
  unfold pendingCount
  rw [List.countP_eq_zero]
  intro e he
  have : e.isOpen = false := by
    have := List.any_eq_false.1 h e he
    simpa using this
  simp only [Entry.isOpen, Bool.or_eq_false_iff] at this
  simp [this.1]

theorem Scan.promoteList_work {c : Scan} (hc : c.active.any Entry.isOpen = false) :
    pendingCount c.promoteList.active = 0
      ∧ c.promoteList.active.length = (c.staged.getD (c.active.map Entry.point)).length
      ∧ c.promoteList.staged = none ∧ c.promoteList.late = c.late
      ∧ c.promoteList.prio = c.prio ∧ c.promoteList.prioActive = c.prioActive
      ∧ c.promoteList.rerun = c.rerun := by
  unfold Scan.promoteList
  split
  · rename_i ns hs
    refine ⟨?_, ?_, rfl, rfl, rfl, rfl, rfl⟩
    · apply pendingCount_closed
      simp [freshEntries, Entry.isOpen]
    · simp [freshEntries, hs]
  · rename_i hs
    exact ⟨pendingCount_closed hc, by simp [hs], hs, rfl, rfl, rfl, rfl⟩

theorem State.passEnd_work {s : State} (h : s.scan.passOver = true) :
    (s.passEnd false).scan.work < s.scan.work := by
  simp only [Scan.passOver, Bool.and_eq_true, beq_iff_eq, Bool.not_eq_true'] at h
  obtain ⟨hp, hc⟩ := h
  obtain ⟨h1, h2, h3, h4, h5, h6, h7⟩ := Scan.promoteList_work hc
  rw [State.passEnd_scan]
  unfold Scan.afterPass
  simp only [h4]
  split
  · simp [Scan.work, Scan.goIdle, hp, h5, h6, h7]
  · split
    · rename_i hl
      simp only [Scan.work, Scan.startPass, hp, hl, h5, h6, h7, pendingCount_setOutcomes, h2]
      simp
    · simp [Scan.work, hp, h5, h6, h7]

theorem State.runEnd_work {s : State} (h : s.scan.runOver = true) :
    s.runEnd.scan.work < s.scan.work := by
  simp only [Scan.runOver, Bool.and_eq_true, Bool.not_eq_true'] at h
  obtain ⟨ha, hc⟩ := h
  have h0 := pendingCount_closed hc
  simp only [State.runEnd, State.modScan_scan, State.modAttn_scan]
  by_cases hr : s.scan.rerun = true
  · simp only [hr, if_true, Scan.work, Scan.startRun, pendingCount_setOutcomes, ha]
    simp
  · simp [Scan.work, ha, hr]

theorem Scan.resolve_work {c : Scan} {o : Origin} {n : PointNo} {out : EntryOutcome}
    (ho : out ≠ .pending) (hf : c.inForce = some o) (hn : cursorPoint (c.entries o) = some n) :
    (c.setEntries o (resolveCursor out (c.entries o))).work < c.work := by
  have h1 := pendingCount_resolveCursor ho hn
  cases o
  · have hp : c.scanner = .pass := by
      unfold Scan.inForce at hf; split at hf
      · cases hf
      · split at hf
        · assumption
        · cases hf
    simp only [Scan.entries] at h1
    simp only [Scan.work, Scan.setEntries, Scan.entries, hp, resolveCursor_points]
    simp only [if_true]
    omega
  · have hp : c.prioActive = true := by
      unfold Scan.inForce at hf; split at hf
      · assumption
      · split at hf <;> cases hf
    simp only [Scan.entries] at h1
    simp only [Scan.work, Scan.setEntries, Scan.entries, hp, length_resolveCursor]
    simp only [if_true]
    omega

/-- Every move leaves less to do. -/
theorem State.engineMove_work {s t : State} (h : s.engineMove = some t) : t.scan.work < s.scan.work := by
  rcases State.engineMove_cases h with
    ⟨hp, rfl⟩ | ⟨_, hr, rfl⟩ | ⟨o, n, _, _, ho, hn, ⟨_, rfl⟩ | ⟨_, rfl⟩ | ⟨_, rfl⟩⟩
  · exact State.passEnd_work hp
  · exact State.runEnd_work hr
  · exact Scan.resolve_work (by decide) ho hn
  · exact Scan.resolve_work (by decide) ho hn
  · exact Scan.resolve_work (by decide) ho hn

theorem settleWithin_settled :
    ∀ (fuel : Nat) (s : State), s.scan.work ≤ fuel → (settleWithin fuel s).engineMove = none
  | 0, s, h => by
    unfold settleWithin
    cases hm : s.engineMove with
    | none => rfl
    | some t => have := State.engineMove_work hm; omega
  | fuel + 1, s, h => by
    unfold settleWithin
    split
    · rename_i t hm
      have := State.engineMove_work hm
      exact settleWithin_settled fuel t (by omega)
    · assumption

/-- After the engine's part of an event it has nothing left to do (R65, R67). -/
theorem State.settle_settled (s : State) : s.settle.engineMove = none :=
  settleWithin_settled _ s s.scan.work_le_moveBound

end Sys2Proof.Machine
end

