-- ==== Sys2Proof/Laws/Executor.lean ====
section
/-! SUPPORT. The executor once: which rule each command row runs, and what the checks before a command's
own rule come to. -/

namespace Sys2Proof.Machine

/-- The own rule of each command, after the checks of the executor. -/
def ruleOf (c : Cmd) (p : CmdPort) (ps : List Byte) : State → Answer × State :=
  match c with
  | .define => defineRule ps
  | .find => findRule ps
  | .readProfile => readProfileRule ps
  | .readValue => readValueRule ps
  | .edit => editRule p ps
  | .activate => lifecycleRule p ps .draft activated
  | .park => lifecycleRule p ps .live parkedPoint
  | .unpark => lifecycleRule p ps .parked unparkedPoint
  | .retire => retireRule p ps
  | .readChanged => readChangedRule p ps
  | .hold => holdRule p ps
  | .release => releaseRule p ps
  | .rlistInsert => rlistInsertRule ps
  | .rlistRemove => rlistRemoveRule ps
  | .rlistClear => fun s => accept (listData s.scan.editsStaged 0) (s.modScan Scan.clearList)
  | .rlistRead => rlistReadRule ps
  | .plistSet => plistSetRule ps
  | .plistRead => plistReadRule ps
  | .scanStart => scanStartRule ps
  | .scanStop => scanStopRule
  | .scanHalt => fun s => accept [] s.halt
  | .skipPass => skipPassRule
  | .runPriority => fun s => accept [requestCode s.scan] s.requestRun
  | .abortPoint => abortPointRule ps
  | .scanConfig => scanConfigRule ps
  | .scanStatus => fun s => accept (scanStatusData s.scan s.attn) s
  | .condRead => condReadRule ps
  | .ack => ackRule ps
  | .ackUpto => ackUptoRule ps
  | .condClear => condClearRule ps
  | .portConfig => portConfigRule ps
  | .portRestore => portRestoreRule ps
  | .portStatus => portStatusRule ps
  | .status => fun s => accept (statusData s) s
  | .clearFlags => clearFlagsRule ps
  | .attnMask => attnMaskRule ps
  | .identify => fun s => accept identifyData s
  | .enterQuiet => enterQuietRule
  | .exitQuiet => exitQuietRule
  | .softReset => fun s => accept [modeCode s.run.mode] (s.softReset p)

/-- Every command row is the one execution of the executor, over its own rule. -/
theorem exec_row (c : Cmd) (p : CmdPort) (ps : List Byte) (s : State) :
    exec (rowOf c p ps) s = runCommand c p ps (ruleOf c p ps) s := by
  cases c <;> rfl

/-- The response is the one `State.answered` writes. -/
theorem respond_eq (p : CmdPort) (r : Answer × State) :
    respond p r = r.2.answered p r.1.status r.1.data := rfl

/-- A taken command is checked, runs its rule and is answered; a command that is not the one taken
leaves the state as it is. -/
theorem runCommand_eq (c : Cmd) (p : CmdPort) (ps : List Byte) (own : State → Answer × State) (s : State) :
    runCommand c p ps own s =
      .next (if s.takes p (opcodeOf c) ps then respond p (checked c ps own s) else s) := by
  unfold runCommand
  split <;> simp_all

/-- A taken command that the mode admits and whose length fits is answered by its own rule. -/
theorem runCommand_own {c : Cmd} {p : CmdPort} {ps : List Byte} {own : State → Answer × State}
    {s : State} (ht : s.Takes c p ps) (hm : refusalOfMode (admissionOf c) s.run.mode = none)
    (hl : lengthFits c ps.length = true) :
    runCommand c p ps own s = .next (respond p (own s)) := by
  rw [runCommand_eq, if_pos ht]
  simp [checked, hm, hl]

/-- A command refused by the mode changes nothing but its port (R187). -/
theorem runCommand_refused {c : Cmd} {p : CmdPort} {ps : List Byte} {own : State → Answer × State}
    {s : State} {st : Status} (ht : s.Takes c p ps)
    (hm : refusalOfMode (admissionOf c) s.run.mode = some st) :
    runCommand c p ps own s = .next (s.answered p st []) := by
  rw [runCommand_eq, if_pos ht]
  simp [checked, hm, refuse, respond_eq]

/-- A command of the wrong length changes nothing but its port (R173). -/
theorem runCommand_short {c : Cmd} {p : CmdPort} {ps : List Byte} {own : State → Answer × State}
    {s : State} (ht : s.Takes c p ps) (hm : refusalOfMode (admissionOf c) s.run.mode = none)
    (hl : lengthFits c ps.length = false) :
    runCommand c p ps own s = .next (s.answered p .badParam []) := by
  rw [runCommand_eq, if_pos ht]
  simp [checked, hm, hl, refuse, respond_eq]

/-- In QUIET and ACTIVE the mode refuses none of the commands that need neither alone (R187). -/
theorem refusalOfMode_works {s : State} (h : s.Works) : refusalOfMode .settledModes s.run.mode = none := by
  rcases h with h | h <;> rw [h] <;> rfl

@[simp] theorem refusalOfMode_always (m : Mode) : refusalOfMode .always m = none := by
  cases m <;> rfl

@[simp] theorem refusalOfMode_active (a : Admission) : refusalOfMode a .active = none := by
  cases a <;> rfl

/-- What a taken command tells of the ports: `p` is WAITING with that frame, the part is out of reset,
and the other port waits only if it was served last (R171). -/
theorem State.takes_iff (s : State) (p : CmdPort) (opcode : Byte) (ps : List Byte) :
    s.takes p opcode ps = true ↔
      s.heldInReset = false ∧ (s.cmd p).state = .waiting ⟨opcode, ps⟩
        ∧ (s.isWaiting (otherPort p) = true → s.servedLast = otherPort p) := by
  have key : ∀ st : CmdPortState, ∀ f : Frame, st.frame? = some f ↔ st = .waiting f := by
    intro st f; cases st <;> simp [CmdPortState.frame?]
  simp only [State.takes, Bool.and_eq_true, Bool.not_eq_true', beq_iff_eq, key]
  constructor
  · rintro ⟨⟨h1, h2⟩, h3⟩
    have hw : s.isWaiting p = true := by simp [State.isWaiting, h3, CmdPortState.frame?]
    refine ⟨h1, h3, fun h4 => ?_⟩
    cases p <;> simp only [otherPort] at h4 ⊢ <;> simp only [State.chosenPort, hw, h4] at h2 <;>
      cases hs : s.servedLast <;> simp [hs, otherPort] at h2 ⊢
  · rintro ⟨h1, h3, h4⟩
    have hw : s.isWaiting p = true := by simp [State.isWaiting, h3, CmdPortState.frame?]
    refine ⟨⟨h1, ?_⟩, h3⟩
    cases p <;> simp only [otherPort] at h4 <;> simp only [State.chosenPort, hw] <;>
      split <;> simp_all [otherPort]

/-! ### Naming a point -/

/-- A command's rule on the point its selector resolves to (R30). -/
theorem withPoint_ok {ps : List Byte} {i : Nat} {rule : PointNo → State → Answer × State} {s : State}
    {n : PointNo} (h : s.resolve (selectorAt ps i) = .ok n) : withPoint ps i rule s = rule n s := by
  simp [withPoint, h]

/-- A selector that does not resolve refuses the command with its status and changes nothing (R29,
R30). -/
theorem withPoint_error {ps : List Byte} {i : Nat} {rule : PointNo → State → Answer × State} {s : State}
    {st : Status} (h : s.resolve (selectorAt ps i) = .error st) :
    withPoint ps i rule s = (⟨st, []⟩, s) := by
  simp [withPoint, h, refuse]

/-- A resolved point is in DRAFT, LIVE or PARKED where the index is sound (R29). -/
theorem State.resolve_number {s : State} {k : Nat} {n : PointNo}
    (h : s.resolve (some (.number k)) = .ok n) : k = n.val ∧ (s.pt n).state.named = true := by
  simp only [State.resolve] at h
  split at h
  · cases h; exact (s.resolveNumber_eq_some k _).1 ‹_›
  · cases h

/-- No hold of the other port: the rule is not refused (R148). -/
theorem unlessHeld_none {p : CmdPort} {n : PointNo} {rule : State → Answer × State} {s : State}
    (h : s.blockingHold p n = none) : unlessHeld p n rule s = rule s := by
  simp [unlessHeld, h]

/-- A hold of the other port: HELD with its remaining time, nothing changed (R148). -/
theorem unlessHeld_some {p : CmdPort} {n : PointNo} {rule : State → Answer × State} {s : State}
    {h : HoldRecord} (hb : s.blockingHold p n = some h) :
    unlessHeld p n rule s = (⟨.held, [byteOf (reportedTime h.left)]⟩, s) := by
  simp [unlessHeld, hb]

/-! ### Events from outside -/

/-- Out of reset an event has its effect; in reset it is ignored (R196). -/
theorem onEvent_eq (f : State → State) (s : State) :
    onEvent f s = .next (if s.heldInReset then s else f s) := by
  unfold onEvent; split <;> simp_all

theorem onEvent_out {f : State → State} {s : State} (h : s.heldInReset = false) :
    onEvent f s = .next (f s) := by
  simp [onEvent_eq, h]

theorem onEvent_held {f : State → State} {s : State} (h : s.heldInReset = true) : onEvent f s = .next s := by
  simp [onEvent_eq, h]

/-- An event that finds nothing to do changes nothing. -/
theorem onEvent_idle {f : State → State} {s : State} (h : f s = s) : onEvent f s = .next s := by
  simp [onEvent_eq, h]

/-- The part is held in reset by RESET_N or while power comes up (R196). -/
theorem State.heldInReset_iff (s : State) :
    s.heldInReset = true ↔ s.inReset = true ∨ s.poweringUp = true := by
  simp [State.heldInReset]

/-- Held in reset the part releases ATTN_N and drives CYM low (R196). -/
theorem State.outputs_of_held {s : State} (h : s.heldInReset = true) :
    s.attnLow = false ∧ s.cymHigh = false := by
  simp [State.attnLow, State.cymHigh, h]

@[simp] theorem stagedLength_none : stagedLength none = 0 := rfl

@[simp] theorem stagedLength_some (ns : List PointNo) : stagedLength (some ns) = ns.length := rfl

/-! ### Expiries (R70, R91, R94, R98, R99, R146, R149, R153, R190) -/

/-- A conversion timer that has run out in BUSY is a timeout. -/
theorem execTimeout_runOut {i : PortNo} {s : State} {r : ConvRecord} (hr : s.heldInReset = false)
    (hp : (s.port i).phase = .busy r 0) : execTimeout i s = .next (s.takeTimeout i r) := by
  simp [execTimeout, onEvent_out hr, hp]

/-- Without a conversion timer that has run out in BUSY there is no timeout. -/
theorem execTimeout_none {i : PortNo} {s : State} (hp : ∀ r, (s.port i).phase ≠ .busy r 0) :
    execTimeout i s = .next s := by
  refine onEvent_idle ?_
  split
  · rename_i hb
    exact if_neg fun h => hp _ (by rw [hb, h])
  all_goals rfl

/-- A conversion timer that has run out in CANCELLING ends it. -/
theorem execCancelTimerExpiry_runOut {i : PortNo} {s : State} {r : ConvRecord} (hr : s.heldInReset = false)
    (hp : (s.port i).phase = .cancelling r 0) :
    execCancelTimerExpiry i s = .next (s.takeCancelExpiry i r) := by
  simp [execCancelTimerExpiry, onEvent_out hr, hp]

/-- Without a conversion timer that has run out in CANCELLING nothing ends it. -/
theorem execCancelTimerExpiry_none {i : PortNo} {s : State} (hp : ∀ r, (s.port i).phase ≠ .cancelling r 0) :
    execCancelTimerExpiry i s = .next s := by
  refine onEvent_idle ?_
  split
  · rename_i hb
    exact if_neg fun h => hp _ (by rw [hb, h])
  all_goals rfl

/-- A probe timer that has run out ends the probe. -/
theorem execProbeTimerExpiry_runOut {i : PortNo} {s : State} (hr : s.heldInReset = false)
    (hp : (s.port i).phase = .probing 0) : execProbeTimerExpiry i s = .next (s.endProbe i) := by
  simp [execProbeTimerExpiry, onEvent_out hr, hp]

/-- Without a probe timer that has run out no probe ends so. -/
theorem execProbeTimerExpiry_none {i : PortNo} {s : State} (hp : (s.port i).phase ≠ .probing 0) :
    execProbeTimerExpiry i s = .next s := by
  refine onEvent_idle ?_
  split
  · rename_i hb
    exact if_neg fun h => hp (by rw [hb, h])
  all_goals rfl

/-- A tick is taken exactly where an interval has run out. -/
theorem execPeriodTick_eq {s : State} (hr : s.heldInReset = false) :
    execPeriodTick s = .next (if s.scan.periodTimer = some 0 then s.takeTick else s) := onEvent_out hr

/-- The wake guard ends exactly where its time has run out. -/
theorem execWakeGuardExpiry_eq {s : State} (hr : s.heldInReset = false) :
    execWakeGuardExpiry s = .next (if s.run.wakeGuard = some 0 then s.endGuard else s) := onEvent_out hr

/-- A hold whose time has wholly run out expires. -/
theorem execHoldExpiry_runOut {n : PointNo} {s : State} {h : HoldRecord} (hr : s.heldInReset = false)
    (hh : s.holdOn n = some h) (h0 : h.left = 0) : execHoldExpiry n s = .next (s.expireHold h) := by
  simp [execHoldExpiry, onEvent_out hr, hh, h0]

/-- A hold with time left does not expire. -/
theorem execHoldExpiry_timeLeft {n : PointNo} {s : State} {h : HoldRecord}
    (hh : s.holdOn n = some h) (h0 : h.left ≠ 0) : execHoldExpiry n s = .next s := by
  simp [execHoldExpiry, onEvent_eq, hh, h0]

/-- Where no hold stands on a point, none expires. -/
theorem execHoldExpiry_unheld {n : PointNo} {s : State} (hh : s.holdOn n = none) :
    execHoldExpiry n s = .next s := by
  simp [execHoldExpiry, onEvent_eq, hh]

/-- The queue that a tick leaves holds the expiry of exactly the holds at 0. -/
theorem State.holdExpiry_mem_dueExpiries {s : State} {n : PointNo} :
    .holdExpiry n ∈ s.dueExpiries ↔ ∃ h ∈ s.holds, h.left = 0 ∧ h.point = n := by
  have port (i : PortNo) (x : SamplePort) : .holdExpiry n ∉ dueAtPort i x := by
    unfold dueAtPort; split <;> simp
  simp [State.dueExpiries, port, and_assoc]

/-- A hold is reported with at least 1 ms (R146). -/
theorem reportedTime_pos (left : Nat) : 1 ≤ reportedTime left := Nat.le_max_left ..

/-- Every step of the table answers a next state. -/
theorem exec_next (i : Instr) (s : State) : ∃ t, exec i s = .next t := by
  cases i <;> first
    | exact ⟨_, runCommand_eq ..⟩
    | (simp only [exec, execCommandFrame, execFetch, execFetchEnd, execResult, execCancelAck,
        execPresent, execDamagedMessage, execTimeout, execCancelTimerExpiry, execProbeTimerExpiry,
        execPeriodTick, execHoldExpiry, execWakeGuardExpiry, execPtrig]
       exact ⟨_, onEvent_eq ..⟩)
    | (simp only [exec, execUnknownOpcode]; split <;> exact ⟨_, rfl⟩)
    | (simp only [exec, execResetN]; split <;> exact ⟨_, rfl⟩)
    | exact ⟨_, rfl⟩

end Sys2Proof.Machine
end

