-- ==== Sys2Proof/Tests/Slice0.lean ====
section
/-! SUPPORT. Tests of one step each, with the results the manual's examples give, and for each statement of
Certificates/Slice0 a witness: a concrete state and operands that meet its hypotheses. -/

namespace Sys2Proof.Tests

-- One kernel evaluation after another: each `decide +kernel` that waits its turn holds a thread.
set_option Elab.async false

open Sys2Proof Sys2Proof.Machine

/-! ### Small states -/

/-- The state with a command waiting at a port, and nothing at the other. -/
def waiting (p : CmdPort) (c : Cmd) (ps : List Byte) (s : State) : State :=
  let c : CommandPort := { CommandPort.initial with state := .waiting ⟨opcodeOf c, ps⟩ }
  { s with cmdPorts := (State.reset.cmdPorts).set p c }

/-- The selector block that names a point below 256 by number. -/
def num (n : Nat) : List Byte := [0x01#8, 0x00#8, 0x00#8, 0x00#8, byteOf n]

/-- A record with tag 40h at revision 7 and the default profile. -/
def record (st : PointState) : Point :=
  { Point.initial with state := st, tag := 0x40#32, revision := 7#16 }

/-- The part after reset, with record 0 in use as a point with tag 40h. -/
def one (x : Point) : State :=
  { State.reset with
    points := State.reset.points.set 0 x
    heads := State.reset.heads.set (bucketNo 0x40#8) (some 0) }

/-- The part in ACTIVE with port 0 enabled in a phase, and one point. -/
def running (ph : Phase) (x : Point) : State :=
  { one x with
    run := ⟨.active, none⟩
    ports := State.reset.ports.set 0 { SamplePort.initial with phase := ph, enable := true } }

/-- A conversion of point 0 by the routine list, with seq 3. -/
def conversion : ConvRecord := ⟨0, 3#4, .routine, false, false, 100⟩

/-- A cyclic pass over point 0 and port 0, the entry at an outcome. -/
def passing (ph : Phase) (x : Point) (out : EntryOutcome) : State :=
  { running ph x with
    scan := { Scan.initial with
      scanner := .pass, scanMode := .cyclic, periodTimer := some 90, active := [⟨0, out⟩] } }

/-- A pass with the conversion of point 0 in progress. -/
def converting : State :=
  passing (.busy conversion 40) { record .live with inFlight := some 0 } .inFlight

/-- The state with a number of ticks passed on its timers, and no expiry taken. -/
def ticked (k : Nat) (s : State) : State := (List.range k).foldl (fun t _ => t.elapse) s

/-- Ticks leave the records. -/
theorem ticked_points (k : Nat) (s : State) : (ticked k s).points = s.points := by
  induction k with
  | zero => rfl
  | succ k ih => simpa [ticked, List.range_succ, State.elapse] using ih

/-! ### The laws at the small states -/

/-- A record of a state whose table is that of `one x`. -/
theorem pt_of_one {s : State} {x : Point} (h : s.points = (one x).points) (n : PointNo) :
    s.pt n = if n = 0 then x else Point.initial := by
  simp only [State.pt, h, one, State.reset, Table.get_set, Table.get_replicate, eq_comm]

/-- A head of a state whose index is that of `one x`. -/
theorem head_of_one {s : State} {x : Point} (h : s.heads = (one x).heads) (b : Byte) :
    s.head b = if b = 0x40#8 then some 0 else none := by
  have hb : bucketNo 0x40#8 = bucketNo b ↔ b = 0x40#8 := by
    simp [bucketNo, Fin.ext_iff, BitVec.toNat_eq, eq_comm]
  simp only [State.head, h, one, State.reset, Table.get_set, Table.get_replicate, hb]

/-- The index of `one x` is sound, whatever else a state holds. -/
theorem indexLaw_of_one {s : State} {x : Point} (hp : s.points = (one x).points)
    (hh : s.heads = (one x).heads) (hn : x.state.named = true) (ht : x.tag = 0x40#32)
    (hx : x.next = none) : s.IndexLaw := by
  have chain (b : Byte) : s.chain b = if b = 0x40#8 then [0] else [] := by
    unfold State.chain
    rw [head_of_one hh]
    split
    · simp [State.chainFrom, pt_of_one hp, hx]
    · rfl
  refine ⟨fun b => ?_, fun b n => ?_, fun n => ?_, fun n => ?_, fun n m => ?_⟩
  · rw [chain]; split <;> simp
  · rw [chain, pt_of_one hp]
    by_cases h0 : n = 0
    · subst h0
      simp only [↓reduceIte, hn, ht, true_and]
      have : bucketOf 0x40#32 = 0x40#8 := by decide
      rw [this]
      by_cases hb : b = 0x40#8
      · simp [hb]
      · simp [hb, Ne.symm hb]
    · simp only [h0, ↓reduceIte]
      split <;> simp [Point.initial, PointState.named, h0]
  · rw [pt_of_one hp]; split <;> simp [Point.initial, hx]
  · rw [pt_of_one hp]; split <;> simp [Point.initial, PointState.named, ht]
  · rw [pt_of_one hp, pt_of_one hp]
    split <;> split <;> simp_all [Point.initial, PointState.named]

/-- A state of one point and no record of the ports agrees on marks if the point carries none. -/
theorem recordLaw_of_one {s : State} {x : Point} (hp : s.points = (one x).points)
    (hr : ∀ i, s.recordPoint i = none) (hx : x.inFlight = none) (hs : x.state ≠ .retiring) :
    s.RecordLaw := by
  refine ⟨fun n i => ?_, fun n => ?_, fun n => ?_⟩ <;> rw [pt_of_one hp] <;> split <;>
    simp_all [Point.initial]

/-- The marks and records of the conversion in progress agree. -/
theorem recordLaw_converting : converting.RecordLaw := by
  have hp (n : PointNo) := pt_of_one (s := converting) rfl n
  have hr (i : PortNo) : converting.recordPoint i = if i = 0 then some 0 else none := by
    revert i; decide +kernel
  refine ⟨fun n i => ?_, fun n => ?_, fun n => ?_⟩ <;> rw [hp]
  · rw [hr]
    by_cases hn : n = 0 <;> by_cases hi : i = 0 <;> simp_all [Point.initial, record, eq_comm]
  · split <;> simp [Point.initial, record]
  · split <;> simp [Point.initial, record]

/-- The IN_FLIGHT entry of the conversion in progress names its point. -/
theorem flightLaw_converting : converting.FlightLaw := by
  intro o e he _
  cases o
  · refine ⟨0, ?_⟩
    simp only [converting, passing, Scan.entries, List.mem_singleton] at he
    subst he
    decide +kernel
  · simp [converting, passing, Scan.entries, Scan.initial] at he

/-- No condition and no hold stands in a state of one quiet point. -/
theorem conditionLaws_of_one {s : State} {x : Point} (hp : s.points = (one x).points)
    (hc : s.cond.list = []) (hu : x.unlisted = false) (hl : x.level = .normal) (hk : x.peak = .normal)
    (hq : x.state = .draft → x.quality = .unscanned) :
    s.ConditionListLaw ∧ s.MarkLaw ∧ s.CalmLaw := by
  refine ⟨⟨by simp [hc], by simp [hc], by simp [hc]⟩, fun n => ?_, fun n => ?_, fun n => ?_⟩ <;>
    rw [pt_of_one hp] <;> split <;> simp_all [Point.initial, PointState.conditioned]

/-! ### Running one step -/

/-- The state after one step. -/
def ran (c : Instr) (s : State) : State :=
  match exec c s with
  | .next t => t
  | .fault _ => s
  | .refused _ => s

theorem exec_ran (c : Instr) (s : State) : exec c s = .next (ran c s) := by
  obtain ⟨t, h⟩ := exec_next c s
  simp [ran, h]

/-- The state after the executor took a command of the host port. -/
def did (c : Cmd) (ps : List Byte) (s : State) : State :=
  ran (rowOf c .host ps) (waiting .host c ps s)

/-- The status and the data of the response at the host port after a command. -/
def answer (c : Cmd) (ps : List Byte) (s : State) : Option (Status × List Byte) :=
  match ((did c ps s).cmd .host).state with
  | .done r => some (r.status, r.data)
  | .ready | .waiting _ => none

/-- The host port's command is taken, and the parameters name point 0, which no other port holds. -/
abbrev Names (c : Cmd) (ps : List Byte) (i : Nat) (s : State) : Prop :=
  s.Takes c .host ps ∧ s.Works ∧ lengthFits c ps.length = true
    ∧ s.resolve (selectorAt ps i) = .ok 0 ∧ s.blockingHold .host 0 = none

/-! ### Well-formedness refuses what cannot cross the pins -/

theorem test_refuses_long_parameters :
    wellFormed (.status .host (List.replicate 41 0x00#8)) = false
      ∧ wellFormed (.status .host (List.replicate 40 0x00#8)) = true := by decide +kernel

theorem test_refuses_named_opcode :
    wellFormed (.unknownOpcode .host 0x73#8 []) = false
      ∧ wellFormed (.unknownOpcode .host 0x1A#8 []) = true := by decide +kernel

theorem test_refuses_empty_frame :
    wellFormed (.commandFrame .spi []) = false ∧ wellFormed (.commandFrame (.i2c 0x48#7) []) = false := by
  decide

theorem test_refuses_fetch_byte_in_front :
    wellFormed (.commandFrame .spi [0x00#8, 0x00#8, 0x00#8]) = false := by decide +kernel

theorem test_refuses_undamaged_burst :
    wellFormed (.damagedMessage 0 (linkRxBytes (.present 3))) = false
      ∧ wellFormed (.damagedMessage 0 [0x83#8, 0x03#8, 0x00#8]) = true := by decide +kernel

/-! ### Bytes (R24, R199, R200, R201, R204) -/

/-- The worked frame of R199. -/
theorem test_crc_identify :
    crcByte 0x00#8 0x73#8 = 0x5E#8 ∧ crcByte 0x5E#8 0x00#8 = 0x9D#8
      ∧ parseFrame [0x73#8, 0x00#8, 0x9D#8] = some ⟨0x73#8, []⟩
      ∧ parseFrame [0x73#8, 0x00#8, 0x9C#8] = none := by decide +kernel

/-- The kinds of R204 with their lengths, and bursts out of range. -/
theorem test_bursts :
    (linkTxBytes (.convert 7#4 4 0)).take 4 = [0x01#8, 0x07#8, 0x04#8, 0x00#8]
      ∧ (linkTxBytes .probe).length = 2
      ∧ decodeBurst (closed [0x81#8, 0x07#8, 0x04#8, 0xB0#8, 0x00#8]) = .result 7#4 1200#16 .inRange
      ∧ decodeBurst (closed [0x82#8, 0x0F#8]) = .cancelAck 15#4
      ∧ decodeBurst (closed [0x82#8, 0x10#8]) = .damaged
      ∧ decodeBurst (closed [0x81#8, 0x07#8, 0x04#8, 0xB0#8, 0x03#8]) = .damaged
      ∧ decodeBurst (closed [0x01#8, 0x07#8, 0x04#8, 0x00#8]) = .damaged := by decide +kernel

/-- The codes of R201 name forty commands, each once. -/
theorem test_opcodes :
    (∀ c ∈ allCommands, commandOf (opcodeOf c) = some c) ∧ allCommands.length = 40
      ∧ commandOf 0x47#8 = some .scanStatus ∧ commandOf 0x48#8 = none := by decide +kernel

/-- The bucket table under R24: 40h for four tags, 08h for one. -/
theorem test_buckets :
    bucketOf 0x1A2B3C4D#32 = 0x40#8 ∧ bucketOf 0x00000040#32 = 0x40#8 ∧ bucketOf 0x40000000#32 = 0x40#8
      ∧ bucketOf 0x00004000#32 = 0x40#8 ∧ bucketOf 0x12345678#32 = 0x08#8 := by decide +kernel

/-- The examples of band legality under R4. -/
theorem test_band_legality :
    (Band.inOrder ⟨some (-500), some (-200), some 800, some 1200, 0⟩ = true)
      ∧ Band.inOrder ⟨some (-200), some (-200), some 800, some 800, 0⟩ = true
      ∧ Band.inOrder ⟨none, some 100, some 100, none, 0⟩ = false
      ∧ Band.inOrder ⟨some 300, none, none, some 300, 0⟩ = false
      ∧ Band.inOrder ⟨none, none, some 900, some 700, 0⟩ = false
      ∧ Band.inOrder ⟨none, none, none, some 2500, 0⟩ = true
      ∧ Band.inOrder ⟨some 50, some (-20), none, none, 0⟩ = false := by decide +kernel

/-! ### Values and bands (the examples of 6.9 and 7.2) -/

/-- The scaled and smoothed values of the table in 6.9. -/
theorem test_run_of_results :
    let c : Scale := ⟨6144, -2000, 2⟩
    smoothed c false 0 (scaled c 2000#16) = 1000 ∧ smoothed c true 1000 (scaled c 2100#16) = 1037
      ∧ smoothed c true 1037 (scaled c 2100#16) = 1065 ∧ smoothed c true 1065 (scaled c 1900#16) = 1011
      ∧ smoothed c true 1011 (scaled c 2001#16) = 1008 := by decide +kernel

/-- The indicated levels of the table in 7.2. -/
theorem test_hysteresis :
    let b : Band := ⟨some (-500), some (-200), some 800, some 1200, 50⟩
    indicated b .normal 820 = .highWarn ∧ indicated b .normal 790 = .normal
      ∧ indicated b .highTrip 1180 = .highTrip ∧ indicated b .highTrip 1120 = .highWarn
      ∧ indicated b .highWarn 770 = .highWarn ∧ indicated b .highWarn 740 = .normal := by decide +kernel

/-- Steps 9 and 11 of the table in 6.9: OVER keeps the value, a timeout grades PORT_FAULT. -/
theorem test_over_and_timeout :
    ((ran (.result 0 3#4 65535#16 .over) converting).pt 0).quality = .overrange
      ∧ ((ran (.result 0 3#4 65535#16 .over) converting).pt 0).raw = 65535#16
      ∧ ((ran (.timeout 0) (ticked 40 converting)).pt 0).quality = .portFault
      ∧ ((ran (.timeout 0) (ticked 40 converting)).port 0).timeoutCount = 1 := by decide +kernel

/-- Step 12 of the table in 6.9: the pass-end ages a point to its stale limit. -/
theorem test_turns_stale :
    let x := { record .live with
      age := 2, quality := .portFault, active := { Profile.default with policy := ⟨1, .notify, 3⟩ } }
    (Point.aged x).quality = .stale ∧ (Point.aged x).age = 3
      ∧ (Point.aged { x with active := Profile.default }).quality = .portFault := by decide +kernel

/-! ### Witnesses: steps, frames, executor -/

theorem witness_IdleStepElapsesOneTick :
    (State.reset.pending = [] ∧ State.reset.heldInReset = false)
      ∧ (State.comingUp.pending = [] ∧ State.comingUp.heldInReset = true) := ⟨⟨rfl, rfl⟩, rfl, rfl⟩

/-- The probe timer of R84 is 200 ticks: it is due when the last one passes. -/
theorem test_tick_brings_expiry :
    (running (.probing 1) (record .live)).idle.pending = [.probeTimerExpiry 0]
      ∧ (running (.probing 2) (record .live)).idle.pending = [] := by decide +kernel

theorem witness_PowerOnAndResetN :
    ({ State.reset with inReset := true } : State).inReset = true ∧ State.comingUp.poweringUp = true
      ∧ (∀ b, Instr.ptrig ≠ .powerOn b) ∧ (∀ e, Instr.ptrig ≠ .resetN e)
      ∧ State.reset.inReset = false ∧ State.reset.poweringUp = false := ⟨rfl, rfl, nofun, nofun, rfl, rfl⟩

/-- RESET_N drives CYM low and releases ATTN_N (R196). -/
theorem test_reset_n :
    (ran (.resetN .fall) { State.reset with scan := { Scan.initial with cym := true } }).scan.cym = false
      ∧ (ran (.resetN (.rise true)) converting).i2cAddress = 0x49#7
      ∧ (ran (.powerOn false) converting).run.mode = .quiet := by decide +kernel

/-- While power is coming up a frame is not taken and a release of RESET_N ends nothing; POWER_ON does
(R196). -/
theorem test_power_coming_up :
    let frame : Instr := .commandFrame .spi [0x73#8, 0x00#8, 0x9D#8]
    ((ran frame State.comingUp).cmd .host).state = .ready
      ∧ ((ran frame (ran (.resetN (.rise true)) State.comingUp)).cmd .host).state = .ready
      ∧ ((ran frame (ran (.powerOn true) State.comingUp)).cmd .host).state = .waiting ⟨0x73#8, []⟩ := by
  decide +kernel

theorem witness_BurstsDecodeExactlyWhenBuilt :
    LinkRx.result 15#4 0#16 .under ≠ .damaged ∧ LinkRx.cancelAck 0#4 ≠ .damaged
      ∧ LinkRx.present 15 ≠ .damaged := by decide

/-- The part with a frame of an opcode that names no command waiting at the host port. -/
def nameless : State :=
  let c : CommandPort := { CommandPort.initial with state := .waiting ⟨0x99#8, []⟩ }
  { State.reset with cmdPorts := State.reset.cmdPorts.set .host c }

theorem witness_ExecutorTakesPortsInTurn :
    nameless.takes .host 0x99#8 [] = true ∧ ∀ c, opcodeOf c ≠ 0x99#8 :=
  ⟨by decide +kernel, by intro c; cases c <;> decide⟩

/-- R173: UNKNOWN. -/
theorem test_unknown_opcode :
    ((ran (.unknownOpcode .host 0x99#8 []) nameless).cmd .host).state = .done ⟨.unknown, false, []⟩ := by
  decide +kernel

theorem witness_TakenCommandGetsOneResponse :
    (waiting .host .status [] State.reset).Takes .status .host []
      ∧ (waiting .service .softReset [] State.reset).Takes .softReset .service [] := by decide +kernel

/-- The part in WAKING. -/
def waking : State := { running (.probing 9) (record .live) with run := ⟨.waking, none⟩ }

theorem witness_ModeAndLengthComeFirst :
    ((waiting .host .define [] waking).Takes .define .host [] ∧ waking.run.mode = .waking)
      ∧ ((waiting .host .scanStart [] State.reset).Takes .scanStart .host [] ∧ State.reset.run.mode = .quiet)
      ∧ (waiting .host .define [0x00#8, 0x00#8, 0x01#8] State.reset).Takes .define .host
          [0x00#8, 0x00#8, 0x01#8]
      ∧ ((waiting .host .edit (List.replicate 7 0x01#8) State.reset).Takes .edit .host
          (List.replicate 7 0x01#8) ∧ (List.replicate 7 0x01#8).length < fixedLength .edit) := by
  decide +kernel

/-- BUSY, QUIET and BAD_PARAM in the order of R173. -/
theorem test_mode_and_length :
    answer .define [] waking = some (.busy, []) ∧ answer .scanStart [] State.reset = some (.quiet, [])
      ∧ answer .define [] State.reset = some (.badParam, [])
      ∧ (answer .status [] waking).map Prod.fst = some .ok := by decide +kernel

/-- Point 0 held by the service port with 8 ms left, as at step 2 of the example under R153. -/
def held : State := { one (record .live) with holds := [⟨.service, 0, 800⟩] }

/-- EDIT of point 0 by number with an expected revision and a SCALE group. -/
def editScale (rev : BitVec 16) : List Byte :=
  num 0 ++ bytes16 rev ++ [0x01#8, 0x20#8, 0x00#8, 0xFF#8, 0xFF#8, 0x9C#8, 0x02#8]

theorem witness_RefusedCommandsChangeNothing :
    ∃ (c : Cmd) (ps : List Byte) (s t : State) (r : Response), s.Takes c .host ps
      ∧ exec (rowOf c .host ps) s = .next t ∧ (t.cmd .host).state = .done r ∧ r.status ≠ .ok
      ∧ r.status ≠ .expired :=
  ⟨.edit, editScale 7#16, waiting .host .edit (editScale 7#16) held, did .edit (editScale 7#16) held,
    ⟨.held, false, [0x08#8]⟩, by decide +kernel, exec_ran _ _, by decide +kernel, by decide, by decide⟩

/-- HELD with 8, REVISION with the current revision, and OK with revision and STAGED choice. -/
theorem test_edit_answers :
    answer .edit (editScale 7#16) held = some (.held, [0x08#8])
      ∧ answer .edit (editScale 6#16) (one (record .live)) = some (.revision, [0x00#8, 0x07#8])
      ∧ answer .edit (editScale 7#16) (one (record .live)) = some (.ok, [0x00#8, 0x08#8, 0x00#8])
      ∧ answer .edit (editScale 7#16) converting = some (.ok, [0x00#8, 0x08#8, 0x01#8]) := by
  decide +kernel

/-- Step 1 of 3.7: the staged profile takes the group, the active one does not. -/
theorem test_edit_stages :
    ((did .edit (editScale 7#16) converting).pt 0).staged.map Profile.scale = some ⟨8192, -100, 2⟩
      ∧ ((did .edit (editScale 7#16) converting).pt 0).active.scale = ⟨4096, 0, 0⟩
      ∧ ((did .edit (editScale 7#16) (one (record .live))).pt 0).active.scale = ⟨8192, -100, 2⟩ := by
  decide +kernel

theorem indexLaw_draft {s : State} (hp : s.points = (one (record .draft)).points)
    (hh : s.heads = (one (record .draft)).heads) : s.IndexLaw :=
  indexLaw_of_one hp hh (by decide) rfl rfl

theorem witness_SelectorsResolveOrRefuse :
    (one (record .draft)).IndexLaw
      ∧ (one (record .draft)).resolve (selectorAt (num 0) 0) = .ok 0
      ∧ (one (record .draft)).resolve (selectorAt [0x02#8, 0x00#8, 0x00#8, 0x00#8, 0x40#8] 0) = .ok 0
      ∧ (one (record .draft)).resolve (selectorAt [0x02#8, 0x00#8, 0x00#8, 0x00#8, 0x41#8] 0) = .error .noTag
      ∧ (one (record .draft)).resolve (selectorAt [0x01#8, 0x00#8, 0x00#8, 0x01#8, 0xFF#8] 0)
          = .error .noPoint
      ∧ (one (record .draft)).resolve (selectorAt [0x01#8, 0x00#8, 0x00#8, 0x02#8, 0x00#8] 0)
          = .error .noPoint
      ∧ (one (record .draft)).resolve (selectorAt [0x01#8, 0x00#8, 0x01#8, 0x00#8, 0x00#8] 0)
          = .error .badParam
      ∧ (one (record .draft)).resolve (selectorAt [0x03#8, 0x00#8, 0x00#8, 0x00#8, 0x00#8] 0)
          = .error .badParam
      ∧ (waiting .host .park (num 1) State.reset).Takes .park .host (num 1)
      ∧ (waiting .host .park (num 1) State.reset).Works
      ∧ lengthFits .park (num 1).length = true
      ∧ (waiting .host .park (num 1) State.reset).resolve (selectorAt (num 1) 0) = .error .noPoint
      ∧ (waiting .host .rlistInsert (num16 0 ++ num 1) State.reset).Takes .rlistInsert .host
          (num16 0 ++ num 1)
      ∧ lengthFits .rlistInsert (num16 0 ++ num 1).length = true
      ∧ (waiting .host .rlistInsert (num16 0 ++ num 1) State.reset).resolve
          (selectorAt (num16 0 ++ num 1) 2) = .error .noPoint
      ∧ waking.run.mode = .waking ∧ (waiting .host .readValue (num 1) waking).Takes .readValue .host (num 1)
      ∧ lengthFits .readValue (num 1).length = true
      ∧ (waiting .host .readValue (num 1) waking).resolve (selectorAt (num 1) 0) = .error .noPoint :=
  ⟨indexLaw_draft rfl rfl, by decide +kernel⟩

theorem witness_HoldKeepsTheOtherPortOff :
    (waiting .host .park (num 0) held).Takes .park .host (num 0)
      ∧ (waiting .host .park (num 0) held).HoldLaw ∧ (⟨.service, 0, 800⟩ : HoldRecord) ∈ held.holds
      ∧ (waiting .host .park (num 0) held).Works ∧ lengthFits .park (num 0).length = true
      ∧ (waiting .host .park (num 0) held).resolve (selectorAt (num 0) 0) = .ok 0
      ∧ (waiting .host .hold (num 0 ++ [0x01#8]) held).Takes .hold .host (num 0 ++ [0x01#8])
      ∧ numAt (num 0 ++ [0x01#8]) 5 ≠ 0 := by decide +kernel

/-! ### Witnesses: the table group -/

/-- The part with every record RETIRING. -/
def full : State := { State.reset with points := Table.replicate 512 (record .retiring) }

theorem pt_full {s : State} (h : s.points = full.points) (n : PointNo) : s.pt n = record .retiring := by
  simp [State.pt, h, full]

theorem indexLaw_full {s : State} (hp : s.points = full.points) (hh : s.heads = full.heads) : s.IndexLaw := by
  have chain (b : Byte) : s.chain b = [] := by
    have : s.head b = none := by simp [State.head, hh, full, State.reset]
    simp [State.chain, this, State.chainFrom]
  refine ⟨fun b => ?_, fun b n => ?_, fun n _ => ?_, fun n h => ?_, fun n m h => ?_⟩ <;>
    simp_all [pt_full hp, record, Point.initial, PointState.named]

/-- DEFINE of a tag below 256 from the host port. -/
def defining (t : Nat) (s : State) : State := waiting .host .define [0x00#8, 0x00#8, 0x00#8, byteOf t] s

theorem witness_DefineAllocatesTheLowestFreeRecord :
    let ps (t : Nat) : List Byte := [0x00#8, 0x00#8, 0x00#8, byteOf t]
    let s := one (record .draft)
    (∀ t, (defining t s).IndexLaw ∧ (defining t full).IndexLaw)
      ∧ ((defining 0 s).Takes .define .host (ps 0) ∧ (defining 0 s).Works ∧ wordAt32 (ps 0) 0 = 0#32)
      ∧ ((defining 0x40 s).Takes .define .host (ps 0x40)
        ∧ (s.pt 0).state.named = true ∧ (s.pt 0).tag = wordAt32 (ps 0x40) 0)
      ∧ ((defining 0x41 full).Takes .define .host (ps 0x41)
        ∧ (∀ n, (full.pt n).state.named = false) ∧ ∀ n, (full.pt n).state ≠ .free)
      ∧ (defining 0x41 s).Takes .define .host (ps 0x41)
      ∧ (∀ m, (s.pt m).state.named = true → (s.pt m).tag ≠ wordAt32 (ps 0x41) 0)
      ∧ (s.pt 1).state = .free ∧ ∀ m, m < 1 → (s.pt m).state ≠ .free := by
  refine ⟨fun t => ⟨indexLaw_draft rfl rfl, indexLaw_full rfl rfl⟩, by decide +kernel, by decide +kernel,
    ⟨by decide +kernel, fun n => by rw [pt_full rfl]; rfl, fun n => by rw [pt_full rfl]; decide⟩,
    by decide +kernel, fun m => ?_, by decide +kernel, fun m hm => ?_⟩
  · rw [pt_of_one (x := record .draft) rfl]
    split
    · decide
    · simp [Point.initial, PointState.named]
  · have : m = 0 := Fin.ext (Nat.lt_one_iff.mp (Fin.lt_def.mp hm))
    subst this
    decide +kernel

/-- Steps 1, 2 and 7 to 9 of the bucket example under R27, on a table with one point. -/
theorem test_bucket_sequence :
    let s := did .define [0x1A#8, 0x2B#8, 0x3C#8, 0x4D#8] (one (record .draft))
    answer .define [0x1A#8, 0x2B#8, 0x3C#8, 0x4D#8] (one (record .draft))
        = some (.ok, [0x00#8, 0x01#8, 0x00#8, 0x01#8])
      ∧ s.chain 0x40#8 = [1, 0] ∧ (did .retire (num 0) s).chain 0x40#8 = [1]
      ∧ answer .find [0x00#8, 0x00#8, 0x00#8, 0x40#8] (did .retire (num 0) s) = some (.noTag, [])
      ∧ answer .define [0x40#8, 0x00#8, 0x00#8, 0x00#8] (did .retire (num 0) s)
        = some (.ok, [0x00#8, 0x00#8, 0x00#8, 0x09#8]) := by decide +kernel

theorem witness_PointReadsReport :
    let tag : List Byte := [0x00#8, 0x00#8, 0x00#8, 0x40#8]
    let s := one (record .draft)
    let t := one { record .live with staged := some Profile.default }
    ((waiting .host .find tag s).Takes .find .host tag ∧ (waiting .host .find tag s).IndexLaw
        ∧ (s.pt 0).state.named = true ∧ (s.pt 0).tag = wordAt32 tag 0)
      ∧ ((waiting .host .find tag full).Takes .find .host tag ∧ (waiting .host .find tag full).IndexLaw
        ∧ ∀ m, (full.pt m).state.named = false)
      ∧ ((waiting .host .readValue (num 0) s).Takes .readValue .host (num 0)
        ∧ s.resolve (selectorAt (num 0) 0) = .ok 0)
      ∧ (s.pt 0).staged = none ∧ (t.pt 0).staged = some Profile.default
      ∧ ∀ b : Byte, b = 0x00#8 ∨ b = 0x01#8 ∨ b = 0x02#8 →
        byteAt (num 0 ++ [b]) 5 = b ∧ (num 0 ++ [b]).length = 6
        ∧ (waiting .host .readProfile (num 0 ++ [b]) s).Takes .readProfile .host (num 0 ++ [b])
        ∧ (waiting .host .readProfile (num 0 ++ [b]) t).Takes .readProfile .host (num 0 ++ [b])
        ∧ s.resolve (selectorAt (num 0 ++ [b]) 0) = .ok 0
        ∧ t.resolve (selectorAt (num 0 ++ [b]) 0) = .ok 0 := by
  refine ⟨⟨by decide +kernel, indexLaw_draft rfl rfl, by decide +kernel⟩,
    ⟨by decide +kernel, indexLaw_full rfl rfl, fun m => by rw [pt_full rfl]; rfl⟩, by decide +kernel, by decide +kernel,
    by decide +kernel, ?_⟩
  rintro b (rfl | rfl | rfl) <;> decide +kernel

/-- READ_VALUE's 12 bytes and READ_PROFILE's 34 (R203). -/
theorem test_point_reads :
    answer .readValue (num 0) (one { record .live with value := -2, raw := 0x0102#16, quality := .good, age := 3 })
        = some (.ok, [0x02#8, 0x00#8, 0x07#8, 0xFF#8, 0xFF#8, 0xFE#8, 0x01#8, 0x02#8, 0x01#8, 0x03#8, 0x00#8,
          0x00#8])
      ∧ (answer .readProfile (num 0 ++ [0x00#8]) (one (record .live))).map (fun r => (r.2.length, r.2.take 14))
        = some (34, [0x00#8, 0x00#8, 0x02#8, 0x00#8, 0x07#8, 0x00#8, 0x00#8, 0x00#8, 0x00#8, 0x00#8, 0x10#8,
          0x00#8, 0x00#8, 0x00#8]) := by decide +kernel

theorem witness_EditWritesOneProfile :
    let ps := editScale 7#16
    let g : Group := .scale ⟨8192, -100, 2⟩
    (8 ≤ ps.length ∧ groupOf (byteAt ps 7) (ps.drop 8) = some g ∧ g.inOrder = true)
      ∧ ∀ s ∈ [one (record .draft), one (record .live), converting],
        Names .edit ps 0 (waiting .host .edit ps s) ∧ wordAt16 ps 5 = (s.pt 0).revision
        ∧ ((s.pt 0).state = .draft ∨ s.scan.scanner = .idle
          ∨ (s.pt 0).state ≠ .draft ∧ s.scan.scanner ≠ .idle) := by decide +kernel

theorem witness_EditChecksRevisionThenGroup :
    let s := one (record .live)
    let edit (rev : BitVec 16) (g : List Byte) := num 0 ++ bytes16 rev ++ g
    let route : List Byte := [0x00#8, 0x03#8, 0x3F#8, 0x0F#8]
    let badPort : List Byte := [0x00#8, 0x04#8, 0x3F#8, 0x0F#8]
    let badBand : List Byte := [0x02#8, 0x0C#8, 0#8, 0#8, 0#8, 0#8, 0#8, 0#8, 0#8, 0#8, 2#8, 0#8, 0#8, 1#8, 0#8, 0#8]
    (∀ g ∈ [route, badPort, badBand], Names .edit (edit 7#16 g) 0 (waiting .host .edit (edit 7#16 g) s)
        ∧ 8 ≤ (edit 7#16 g).length ∧ wordAt16 (edit 7#16 g) 5 = (s.pt 0).revision)
      ∧ (Names .edit (edit 6#16 route) 0 (waiting .host .edit (edit 6#16 route) s)
        ∧ wordAt16 (edit 6#16 route) 5 ≠ (s.pt 0).revision)
      ∧ groupOf 0x00#8 (route.drop 1) = some (.route ⟨3, 63, 15⟩)
      ∧ groupOf 0x00#8 (badPort.drop 1) = none
      ∧ groupOf 0x02#8 (badBand.drop 1) = some (.band ⟨none, none, some 2, some 1, 0⟩)
      ∧ Band.inOrder ⟨none, none, some 2, some 1, 0⟩ = false
      ∧ groupOf 0x01#8 [0x18#8, 0x00#8, 0xFF#8, 0xF8#8, 0x30#8, 0x03#8] = some (.scale ⟨6144, -2000, 3⟩)
      ∧ groupOf 0x02#8 [0x09#8, 0xFF#8, 0xFF#8, 0xFE#8, 9#8, 9#8, 9#8, 9#8, 9#8, 9#8, 0#8, 1#8, 0#8, 1#8, 2#8]
        = some (.band ⟨some (-2), none, none, some 256, 258⟩)
      ∧ groupOf 0x03#8 [0x08#8, 0x01#8, 0xFF#8] = some (.policy ⟨8, .latch, 255⟩)
      ∧ groupOf 0x03#8 [0x09#8, 0x01#8, 0xFF#8] = none := by decide +kernel

theorem witness_LifecycleCommandsMoveTheState :
    (num 0).length = 5
      ∧ ∀ st ∈ [PointState.draft, .live, .parked], ∀ c ∈ [Cmd.activate, .park, .unpark],
        Names c (num 0) 0 (waiting .host c (num 0) (one (record st))) ∧ ((one (record st)).pt 0).state = st := by
  decide +kernel

/-- R14 to R16, and BAD_STATE. -/
theorem test_lifecycle :
    ((did .activate (num 0) (one (record .draft))).pt 0).state = .live
      ∧ ((did .park (num 0) (one (record .live))).pt 0).quality = .stale
      ∧ ((did .unpark (num 0) (one { record .parked with age := 9 })).pt 0).age = 0
      ∧ answer .park (num 0) (one (record .draft)) = some (.badState, []) := by decide +kernel

theorem indexLaw_converting {s : State} (hp : s.points = converting.points)
    (hh : s.heads = converting.heads) : s.IndexLaw :=
  indexLaw_of_one (x := { record .live with inFlight := some 0 }) hp hh (by decide) rfl rfl

/-- Point 0 with a condition entry, alone or beside point 1, which carries an unlisted mark. -/
def listedPoint : Point := { record .live with level := .highWarn, peak := .highWarn }

/-- The marked point beside it. -/
def markedPoint : Point :=
  { listedPoint with tag := 0x41#32, level := .lowWarn, peak := .lowTrip, unlisted := true }

/-- The part with the entry of point 0, and point 1 marked. -/
def pair : State :=
  { one listedPoint with
    points := (one listedPoint).points.set 1 markedPoint
    heads := (one listedPoint).heads.set (bucketNo 0x41#8) (some 1)
    cond := ⟨[⟨0, 7#32, .highWarn, .highWarn, false, 0⟩], 7#32⟩ }

theorem pt_pair {s : State} (h : s.points = pair.points) (n : PointNo) :
    s.pt n = if n = 1 then markedPoint else if n = 0 then listedPoint else Point.initial := by
  simp only [State.pt, h, pair, one, State.reset, Table.get_set, Table.get_replicate, eq_comm]

theorem indexLaw_pair {s : State} (hp : s.points = pair.points) (hh : s.heads = pair.heads) :
    s.IndexLaw := by
  have head (b : Byte) :
      s.head b = if b = 0x41#8 then some 1 else if b = 0x40#8 then some 0 else none := by
    have h0 : bucketNo 0x40#8 = bucketNo b ↔ b = 0x40#8 := by
      simp [bucketNo, Fin.ext_iff, BitVec.toNat_eq, eq_comm]
    have h1 : bucketNo 0x41#8 = bucketNo b ↔ b = 0x41#8 := by
      simp [bucketNo, Fin.ext_iff, BitVec.toNat_eq, eq_comm]
    simp only [State.head, hh, pair, one, State.reset, Table.get_set, Table.get_replicate, h0, h1]
  have chain (b : Byte) : s.chain b = if b = 0x41#8 then [1] else if b = 0x40#8 then [0] else [] := by
    unfold State.chain
    rw [head]
    split
    · simp [State.chainFrom, pt_pair hp, markedPoint, listedPoint, record, Point.initial]
    · split
      · simp [State.chainFrom, pt_pair hp, listedPoint, record, Point.initial]
      · rfl
  have named (n : PointNo) : (s.pt n).state.named = true ↔ n = 1 ∨ n = 0 := by
    rw [pt_pair hp]
    split <;> [skip; split] <;>
      simp_all [markedPoint, listedPoint, record, Point.initial, PointState.named]
  have tag1 : (s.pt 1).tag = 0x41#32 := by rw [pt_pair hp]; rfl
  have tag0 : (s.pt 0).tag = 0x40#32 := by rw [pt_pair hp]; rfl
  refine ⟨fun b => ?_, fun b n => ?_, fun n _ => ?_, fun n h => ?_, fun n m h k e => ?_⟩
  · rw [chain]; split <;> [skip; split] <;> simp
  · have b1 : bucketOf 0x41#32 = 0x41#8 := by decide
    have b0 : bucketOf 0x40#32 = 0x40#8 := by decide
    rw [chain, named]
    constructor
    · intro h
      split at h
      · simp only [List.mem_singleton] at h
        subst h; simp_all
      · split at h
        · simp only [List.mem_singleton] at h
          subst h; simp_all
        · simp at h
    · rintro ⟨rfl | rfl, h⟩
      · rw [tag1, b1] at h; subst h; simp
      · rw [tag0, b0] at h; subst h; simp
  · rw [pt_pair hp]; split <;> [skip; split] <;> rfl
  · rcases (named n).1 h with rfl | rfl <;> simp [tag1, tag0]
  · rcases (named n).1 h with rfl | rfl <;> rcases (named m).1 k with rfl | rfl <;> simp_all

theorem witness_RetireCleansUp :
    ((waiting .host .retire (num 0) converting).IndexLaw ∧ (num 0).length = 5
      ∧ Names .retire (num 0) 0 (waiting .host .retire (num 0) converting))
      ∧ ((waiting .host .retire (num 0) pair).IndexLaw
        ∧ Names .retire (num 0) 0 (waiting .host .retire (num 0) pair)
        ∧ (pair.entryOf 0).isSome = true ∧ (pair.pt 1).unlisted = true ∧ (pair.pt 0).unlisted = false) :=
  ⟨⟨indexLaw_converting rfl rfl, by decide +kernel⟩, indexLaw_pair rfl rfl, by decide +kernel⟩

/-- The refill that follows the removal of the retired point's entry (R18, R130, R141). -/
theorem test_retire_refills :
    (did .retire (num 0) pair).cond = ⟨[⟨1, 8#32, .lowWarn, .lowTrip, false, 0⟩], 8#32⟩
      ∧ ((did .retire (num 0) pair).pt 1).unlisted = false
      ∧ ((did .retire (num 0) pair).pt 0).state = .free := by decide +kernel

/-- A point in flight is RETIRING, leaves its list, and is FREE at the end of its conversion (R17, R19). -/
theorem test_retire_in_flight :
    answer .retire (num 0) converting = some (.ok, [0x00#8, 0x08#8, 0x04#8])
      ∧ (did .retire (num 0) converting).scan.active = []
      ∧ ((ran (.result 0 3#4 1#16 .inRange) (did .retire (num 0) converting)).pt 0).state = .free := by
  decide +kernel

/-- Points 3, 17, 200 and 411 in the host port's change set, its cursor at 200. -/
def changed : State :=
  let c : ChangeSet :=
    ⟨[3, 17, 200, 411].foldl (fun (t : Table Bool 512) n => t.set n true) ChangeSet.initial.members, 200⟩
  { State.reset with changed := ⟨c, ChangeSet.initial⟩ }

theorem witness_ReadChangedGoesRound :
    ∀ b ∈ [0x00#8, 0x01#8, 0x08#8, 0x09#8],
      (waiting .host .readChanged [b] changed).Takes .readChanged .host [b] ∧ [b].length = 1 := by
  decide +kernel

/-- Step 1 of the example under R159: 411 and 3, two left, the cursor at 3. -/
theorem test_read_changed :
    (answer .readChanged [0x02#8] changed).map (fun r => (r.2.take 5, (r.2.drop 14).take 2))
        = some ([0x02#8, 0x00#8, 0x02#8, 0x01#8, 0x9B#8], [0x00#8, 0x03#8])
      ∧ ((did .readChanged [0x02#8] changed).changed.get .host).cursor = 3 := by decide +kernel

/-! ### Witnesses: the access and list groups -/

/-- A live point with seven other holds of the host port standing, or eight. -/
def holding (k : Nat) : State :=
  { one (record .live) with
    points := (List.finRange 9).foldl (fun t i => t.set (Fin.ofNat 512 i.val) (record .live))
      State.reset.points
    holds := (List.range k).map fun i => ⟨.host, Fin.ofNat 512 (i + 1), 100⟩ }

/-- Point 0 held by the host port, which also lost a hold on it before. -/
def renewing : State :=
  { one (record .live) with holds := [⟨.host, 0, 1150⟩] }

/-- A hold of a port on point 0 whose time has wholly run out. -/
def runOut (p : CmdPort) : State := { one (record .live) with holds := [⟨p, 0, 0⟩] }

theorem witness_HoldAndRelease :
    let h (t : Nat) := num 0 ++ [byteOf t]
    (∀ k ∈ [7, 8], (holding k).HoldLaw ∧ (holding k).holds.length = k
        ∧ (∀ x ∈ (holding k).holds, x.point ≠ 0)
        ∧ ∀ t ∈ [0, 1, 255], Names .hold (h t) 0 (waiting .host .hold (h t) (holding k)) ∧ numAt (h t) 5 = t)
      ∧ (renewing.HoldLaw ∧ ∀ x ∈ renewing.holds, x.point = 0 ∧ x.port = .host)
      ∧ Names .hold (h 9) 0 (waiting .host .hold (h 9) renewing)
      ∧ Names .release (num 0) 0 (waiting .host .release (num 0) renewing)
      ∧ (waiting .host .release (num 0) held).Takes .release .host (num 0)
      ∧ ∀ x ∈ held.holds, x.point = 0 → x.port ≠ .host := by decide +kernel

/-- CREATED, RENEWED, NO_HOLD_SPACE, and RELEASE with 11.5 ms left rounded up. -/
theorem test_hold_and_release :
    answer .hold (num 0 ++ [0x14#8]) (one (record .live)) = some (.ok, [0x00#8, 0x00#8, 0x00#8, 0x14#8])
      ∧ answer .hold (num 0 ++ [0x14#8]) renewing = some (.ok, [0x01#8, 0x00#8, 0x00#8, 0x14#8])
      ∧ answer .hold (num 0 ++ [0x14#8]) (holding 8) = some (.noHoldSpace, [])
      ∧ answer .release (num 0) renewing = some (.ok, [0x0C#8])
      ∧ answer .release (num 0) held = some (.notHeld, []) := by decide +kernel

/-- A RELEASE after the hold ran out is EXPIRED once (R149 to R151). -/
theorem test_expired_once :
    let lost := ran (.holdExpiry 0) (runOut .host)
    lost.holds = [] ∧ lost.attn.holdExpired = true ∧ (lost.cmd .host).lastExpired = some 0
      ∧ (State.softReset lost .host).attn.holdExpired = false := by decide +kernel

/-- R153: the expiry taken after the renewal is none; and a hold with time left does not expire (R146). -/
theorem test_renewal_before_expiry :
    (ran (.holdExpiry 0) (did .hold (num 0 ++ [0x14#8]) (runOut .host))).holds = [⟨.host, 0, 2000⟩]
      ∧ (ran (.holdExpiry 0) (did .hold (num 0 ++ [0x14#8]) (runOut .host))).attn.holdExpired = false
      ∧ ran (.holdExpiry 0) renewing = renewing := by decide +kernel

/-- A routine list of a length over the first points, all live, in a scanner state. -/
def listing (sc : ScannerState) (k : Nat) : State :=
  { State.reset with
    points := Table.replicate 512 (record .live)
    scan := { Scan.initial with
      scanner := sc, active := (List.range k).map fun i => ⟨Fin.ofNat 512 (i + 1), .done⟩ } }

theorem witness_RoutineListEdits :
    (∀ sc ∈ [ScannerState.idle, .gap], ∀ k ∈ [0, 2, 255, 256],
        (listing sc k).scan.active.length = k
        ∧ (∀ pos ∈ [0, 2], Names .rlistInsert (num16 pos ++ num 0) 2
            (waiting .host .rlistInsert (num16 pos ++ num 0) (listing sc k)))
        ∧ Names .rlistInsert (num16 0 ++ num 0) 2
            (waiting .host .rlistInsert (num16 0 ++ num 0) (listing sc k)))
      ∧ (∀ sc ∈ [ScannerState.idle, .gap],
        (1 ∈ (listing sc 2).scan.active.map Entry.point) ∧ (0 ∉ (listing sc 2).scan.active.map Entry.point)
        ∧ ((listing sc 2).scan.active.map Entry.point).Nodup
        ∧ Names .rlistRemove (num 0) 0 (waiting .host .rlistRemove (num 0) (listing sc 2))
        ∧ (waiting .host .rlistRemove (num 1) (listing sc 2)).resolve (selectorAt (num 1) 0) = .ok 1
        ∧ (waiting .host .rlistClear [] (listing sc 2)).Takes .rlistClear .host []) := by decide +kernel

/-- Step 4 of 3.7, and the edits and refusals in IDLE. -/
theorem test_routine_list_edits :
    (did .rlistInsert (num16 1 ++ num 9) (listing .gap 3)).scan.staged = some [1, 9, 2, 3]
      ∧ (did .rlistInsert (num16 3 ++ num 9) (listing .idle 3)).scan.active.map Entry.point = [1, 2, 3, 9]
      ∧ answer .rlistInsert (num16 4 ++ num 9) (listing .idle 3) = some (.badParam, [])
      ∧ answer .rlistInsert (num16 0 ++ num 2) (listing .idle 3) = some (.duplicate, [])
      ∧ answer .rlistInsert (num16 0 ++ num 0) (listing .idle 256) = some (.listFull, [])
      ∧ answer .rlistRemove (num 2) (listing .gap 3) = some (.ok, [0x01#8, 0x00#8, 0x02#8])
      ∧ answer .rlistRemove (num 9) (listing .gap 3) = some (.notListed, [])
      ∧ answer .rlistClear [] (listing .gap 3) = some (.ok, [0x01#8, 0x00#8, 0x00#8]) := by decide +kernel

/-- A state with a staged list and a priority list. -/
def lists : State :=
  { listing .gap 2 with
    scan := { (listing .gap 2).scan with staged := some [5, 6, 7], prio := [⟨8, .none⟩] } }

theorem witness_ListReadsReport :
    (∀ ps ∈ [[0x00#8, 0x00#8, 0x10#8], [0x01#8, 0xFF#8, 0x01#8], [0x02#8, 0x00#8, 0x10#8],
          [0x00#8, 0x00#8, 0x00#8], [0x01#8, 0x00#8, 0x11#8]],
        (waiting .host .rlistRead ps lists).Takes .rlistRead .host ps)
      ∧ lists.scan.staged = some [5, 6, 7] ∧ converting.scan.staged = none
      ∧ (waiting .host .rlistRead [0x01#8, 0x00#8, 0x01#8] converting).Takes .rlistRead .host
          [0x01#8, 0x00#8, 0x01#8]
      ∧ (∀ ps ∈ [[0x0F#8, 0x10#8], [0x10#8, 0x10#8], [0x00#8, 0x11#8], [0x00#8, 0x00#8]],
        (waiting .host .plistRead ps lists).Takes .plistRead .host ps)
      ∧ ∀ ps ∈ [[0x3F#8, 0x08#8], [0x40#8, 0x08#8], [0x00#8, 0x09#8], [0x00#8, 0x00#8]],
        (waiting .host .condRead ps lists).Takes .condRead .host ps := by decide +kernel

/-- RLIST_READ of either list, PLIST_READ and COND_READ (R51, R61, R138). -/
theorem test_list_reads :
    answer .rlistRead [0x01#8, 0x01#8, 0x10#8] lists
        = some (.ok, [0x01#8, 0x00#8, 0x03#8, 0x02#8, 0x00#8, 0x06#8, 0xFF#8, 0x00#8, 0x07#8, 0xFF#8])
      ∧ answer .rlistRead [0x00#8, 0x00#8, 0x01#8] lists
        = some (.ok, [0x00#8, 0x00#8, 0x02#8, 0x01#8, 0x00#8, 0x01#8, 0x03#8])
      ∧ answer .plistRead [0x00#8, 0x10#8] lists = some (.ok, [0x01#8, 0x01#8, 0x00#8, 0x08#8, 0x00#8])
      ∧ answer .condRead [0x00#8, 0x08#8] lists = some (.ok, [0x00#8, 0x00#8, 0x00#8, 0x00#8]) := by
  decide +kernel

theorem witness_PlistSetReplacesTheList :
    let s := listing .idle 2
    let running := { s with scan := { s.scan with prioActive := true } }
    let two : List Byte := [0x02#8] ++ num16 3 ++ num16 4
    let same : List Byte := [0x02#8] ++ num16 3 ++ num16 3
    let missing : List Byte := [0x01#8] ++ num16 512
    (∀ ps ∈ [two, same, missing, [0x00#8], [0x11#8], [0x01#8]],
        (waiting .host .plistSet ps s).Takes .plistSet .host ps
        ∧ (waiting .host .plistSet ps running).Takes .plistSet .host ps ∧ s.Works ∧ 1 ≤ ps.length)
      ∧ two.length = 1 + 2 * numAt two 0 ∧ same.length = 1 + 2 * numAt same 0
      ∧ missing.length = 1 + 2 * numAt missing 0
      ∧ numAt16 two 1 = 3 ∧ numAt16 two 3 = 4 ∧ numAt16 same 1 = numAt16 same 3 ∧ numAt16 missing 1 = 512
      ∧ (s.pt 3).state.named = true ∧ (s.pt 4).state.named = true
      ∧ 16 < numAt [0x11#8] 0 := by decide +kernel

/-- PLIST_SET: the list, DUPLICATE, NO_POINT, BUSY (R60). -/
theorem test_plist_set :
    let s := listing .idle 2
    (did .plistSet ([0x02#8] ++ num16 4 ++ num16 3) s).scan.prio = [⟨4, .none⟩, ⟨3, .none⟩]
      ∧ answer .plistSet ([0x02#8] ++ num16 3 ++ num16 3) s = some (.duplicate, [])
      ∧ answer .plistSet ([0x01#8] ++ num16 512) s = some (.noPoint, [])
      ∧ answer .plistSet [0x00#8] { s with scan := { s.scan with prioActive := true } } = some (.busy, []) := by
  decide +kernel

/-! ### Witnesses: the scan group -/

/-- A scan in GAP, one in ACTIVE with nothing on, and each with a point to scan. -/
def gapped : State :=
  { converting with
    scan := { converting.scan with scanner := .gap, active := [⟨0, .done⟩] } }

/-- ACTIVE with the scanner IDLE and point 0 listed. -/
def ready : State :=
  { running .idle (record .live) with scan := { Scan.initial with active := [⟨0, .none⟩], prio := [⟨0, .none⟩] } }

theorem witness_ScanStartStopSkip :
    ((∀ b ∈ [0x00#8, 0x01#8, 0x02#8], (waiting .host .scanStart [b] ready).Takes .scanStart .host [b]
        ∧ (waiting .host .scanStart [b] converting).Takes .scanStart .host [b])
      ∧ ready.run.mode = .active ∧ ready.scan.scanner = .idle ∧ converting.scan.scanner = .pass
      ∧ gapped.scan.scanner = .gap
      ∧ (∀ s ∈ [ready, converting, gapped], s.Works
        ∧ (waiting .host .scanStop [] s).Takes .scanStop .host []
        ∧ (waiting .host .skipPass [] s).Takes .skipPass .host []))
      ∧ (waiting .host .skipPass [] converting).RecordLaw ∧ (waiting .host .skipPass [] converting).FlightLaw :=
  ⟨by decide +kernel, recordLaw_converting, flightLaw_converting⟩

/-- A pass starts and dispatches at once (R63 to R66); the stop is requested in PASS and taken in GAP (R72). -/
theorem test_scan_start_and_stop :
    (did .scanStart [0x01#8] ready).scan.active = [⟨0, .inFlight⟩]
      ∧ ((did .scanStart [0x01#8] ready).pt 0).inFlight = some 0
      ∧ (did .scanStart [0x01#8] ready).scan.periodTimer = some 100000
      ∧ answer .scanStart [0x00#8] converting = some (.busy, [])
      ∧ (did .scanStop [] converting).scan.stopRequested = true
      ∧ answer .scanStop [] gapped = some (.ok, [0x00#8]) := by decide +kernel

/-- SKIP_PASS withdraws one entry, and the pass ends over the CANCELLING port (R68, R73). -/
theorem test_skip_pass :
    answer .skipPass [] converting = some (.ok, [0x00#8, 0x01#8])
      ∧ (did .skipPass [] converting).scan.scanner = .gap
      ∧ ((did .skipPass [] converting).port 0).sent = [.cancel 3#4]
      ∧ answer .skipPass [] ready = some (.badState, []) := by decide +kernel

/-- Records and entries agree at the states a halt finds: GAP, and IDLE with and without a run. -/
theorem laws_gapped : gapped.RecordLaw ∧ gapped.FlightLaw := by
  refine ⟨recordLaw_converting, fun o e he hf => ?_⟩
  cases o
  · simp only [gapped, converting, passing, Scan.entries, List.mem_singleton] at he
    subst he; simp at hf
  · simp [gapped, converting, passing, Scan.entries, Scan.initial] at he

theorem laws_ready : ready.RecordLaw ∧ ready.FlightLaw := by
  refine ⟨recordLaw_of_one (x := record .live) rfl (by decide +kernel) rfl (by decide), fun o e he hf => ?_⟩
  cases o <;> simp only [ready, Scan.entries, List.mem_singleton] at he <;> subst he <;> simp at hf

/-- A priority run over a point whose port is busy, with the trigger enable on. -/
def prioRun (active rerun : Bool) : State :=
  { ready with scan := { ready.scan with
      prioActive := active, rerun := rerun, trigger := true, prio := [⟨0, .pending⟩] } }

theorem laws_prioRun : (prioRun true true).RecordLaw ∧ (prioRun true true).FlightLaw := by
  refine ⟨laws_ready.1, fun o e he hf => ?_⟩
  cases o <;> simp only [prioRun, ready, Scan.entries, List.mem_singleton] at he <;> subst he <;>
    simp at hf

theorem witness_ScanHaltEndsEverything :
    (∀ s ∈ [converting, gapped, ready, prioRun true true],
      (waiting .host .scanHalt [] s).Takes .scanHalt .host [] ∧ (waiting .host .scanHalt [] s).Works
        ∧ (waiting .host .scanHalt [] s).ListLaw)
      ∧ ((waiting .host .scanHalt [] converting).RecordLaw
        ∧ (waiting .host .scanHalt [] converting).FlightLaw)
      ∧ ((waiting .host .scanHalt [] gapped).RecordLaw ∧ (waiting .host .scanHalt [] gapped).FlightLaw)
      ∧ ((waiting .host .scanHalt [] ready).RecordLaw ∧ (waiting .host .scanHalt [] ready).FlightLaw)
      ∧ ((waiting .host .scanHalt [] (prioRun true true)).RecordLaw
        ∧ (waiting .host .scanHalt [] (prioRun true true)).FlightLaw) :=
  ⟨by decide +kernel, ⟨recordLaw_converting, flightLaw_converting⟩, laws_gapped, laws_ready, laws_prioRun⟩

/-- The halt in PASS, and of a run with a rerun held (R74). -/
theorem test_scan_halt :
    let r := did .scanHalt [] (prioRun true true)
    let t := did .scanHalt [] converting
    (r.scan.prioActive = false ∧ r.scan.rerun = false ∧ r.scan.prio = [⟨0, .cancelled⟩]
        ∧ r.attn.prioDone = false)
      ∧ t.scan.scanner = .idle ∧ t.scan.active = [⟨0, .cancelled⟩] ∧ t.scan.passCounter = 1#16
      ∧ t.scan.periodTimer = none ∧ (t.port 0).phase.isCancelling = true := by decide +kernel

theorem witness_PriorityRequests :
    (∀ s ∈ [prioRun false false, prioRun true false, prioRun true true],
        (waiting .host .runPriority [] s).Takes .runPriority .host [] ∧ s.run.mode = .active
        ∧ s.heldInReset = false ∧ s.scan.trigger = true)
      ∧ ready.scan.trigger = false ∧ State.reset.run.mode ≠ .active := by decide +kernel

/-- STARTED, RERUN and LOST, and an edge on PTRIG (R76 to R78). -/
theorem test_priority_requests :
    answer .runPriority [] ready = some (.ok, [0x00#8])
      ∧ answer .runPriority [] (prioRun true false) = some (.ok, [0x01#8])
      ∧ answer .runPriority [] (prioRun true true) = some (.ok, [0x02#8])
      ∧ (ran .ptrig (prioRun false false)).scan.prio = [⟨0, .inFlight⟩]
      ∧ (ran .ptrig (prioRun true true)).attn.prioLost = true
      ∧ (ran .ptrig ready).scan.prioActive = false := by decide +kernel

theorem witness_AbortPointWithdrawsOneConversion :
    (Names .abortPoint (num 0) 0 (waiting .host .abortPoint (num 0) converting)
        ∧ (converting.port 0).phase = .busy conversion 40 ∧ conversion.point = 0
        ∧ (⟨0, .inFlight⟩ : Entry) ∈ converting.scan.entries conversion.origin)
      ∧ (waiting .host .abortPoint (num 0) converting).RecordLaw
      ∧ Names .abortPoint (num 0) 0 (waiting .host .abortPoint (num 0) ready)
      ∧ (∀ i, (ready.port i).phase.record = none) ∧ (waiting .host .abortPoint (num 0) ready).RecordLaw := by
  refine ⟨by decide +kernel, recordLaw_converting, by decide +kernel, by decide +kernel, ?_⟩
  exact recordLaw_of_one (x := record .live) rfl (by decide +kernel) rfl (by decide)

/-- ABORT_POINT (R75). -/
theorem test_abort_point :
    answer .abortPoint (num 0) converting = some (.ok, [0x00#8, 0x00#8])
      ∧ (did .abortPoint (num 0) converting).scan.active = [⟨0, .cancelled⟩]
      ∧ answer .abortPoint (num 0) ready = some (.badState, []) := by decide +kernel

theorem witness_ConfigurationWrites :
    (∀ ps ∈ [num16 0 ++ [0x00#8], num16 1 ++ [0x01#8], num16 65535 ++ [0x00#8], num16 1 ++ [0x02#8]],
        (waiting .host .scanConfig ps ready).Takes .scanConfig .host ps)
      ∧ (∀ b ∈ [0x00#8, 0x7F#8, 0x80#8], (waiting .host .attnMask [b] ready).Takes .attnMask .host [b]
        ∧ (waiting .host .clearFlags [b] ready).Takes .clearFlags .host [b]) ∧ ready.Works := by decide +kernel

/-- SCAN_CONFIG, ATTN_MASK and CLEAR_FLAGS (R80, R178, R179). -/
theorem test_configuration :
    (did .scanConfig (num16 20 ++ [0x01#8]) ready).scan.period = 20
      ∧ (did .scanConfig (num16 20 ++ [0x01#8]) ready).scan.trigger = true
      ∧ answer .attnMask [0x47#8] ready = some (.ok, [0x07#8, 0x47#8])
      ∧ answer .clearFlags [0x20#8] (ran .ptrig (prioRun true true)) = some (.ok, [0x00#8])
      ∧ answer .clearFlags [0x80#8] ready = some (.badParam, []) := by decide +kernel

theorem witness_StatusReadsReport :
    (waiting .host .status [] converting).Takes .status .host []
      ∧ (waiting .host .scanStatus [] converting).Takes .scanStatus .host []
      ∧ ∀ ps ∈ [[0x03#8, 0x00#8], [0x04#8, 0x00#8], [0x00#8, 0x01#8], [0x00#8, 0x02#8]],
        (waiting .host .portStatus ps converting).Takes .portStatus .host ps := by decide +kernel

/-- The lengths and some bytes of STATUS, SCAN_STATUS and PORT_STATUS (R81, R103, R203). -/
theorem test_status_reads :
    answer .status [] State.reset
        = some (.ok, [0x00#8, 0x00#8, 0x00#8, 0x00#8, 0x00#8, 0x07#8, 0x01#8, 0x00#8, 0x00#8, 0x00#8, 0x00#8,
          0x00#8, 0x00#8])
      ∧ (answer .scanStatus [] converting).map (fun r => r.2.take 9)
        = some [0x01#8, 0x01#8, 0x00#8, 0x00#8, 0x00#8, 0x01#8, 0x27#8, 0x10#8, 0x00#8]
      ∧ (answer .scanStatus [] converting).map (fun r => r.2.drop 9)
        = some [0x00#8, 0x00#8, 0x00#8, 0x01#8, 0x01#8, 0x00#8, 0x00#8, 0x00#8, 0x01#8, 0x00#8, 0x00#8, 0x00#8,
          0x00#8, 0x00#8, 0x00#8, 0x00#8, 0x00#8, 0x10#8, 0x00#8, 0x00#8, 0x00#8]
      ∧ answer .portStatus [0x00#8, 0x00#8] converting
        = some (.ok, [0x03#8, 0x01#8, 0x64#8, 0x00#8, 0x00#8, 0xFF#8, 0x00#8, 0x01#8, 0x00#8, 0x00#8, 0x03#8,
          0x00#8, 0x00#8, 0x00#8, 0x00#8]) := by decide +kernel

theorem witness_IdentifyIsFixed :
    (waiting .host .identify [] waking).Takes .identify .host [] := by decide +kernel

/-- IDENTIFY in WAKING (R177). -/
theorem test_identify :
    answer .identify [] waking = some (.ok, [0xB7#8, 0x51#8, 0x20#8, 0x01#8]) := by decide +kernel

/-! ### Witnesses: the scan engine -/

theorem witness_SettleTakesEveryMove :
    ready.engineMove = none ∧ (prioRun true false).engineMove.isSome = true := by decide +kernel

/-- A pass whose cursor stands at a record, with port 0 in a phase; the same for a run. -/
def atCursor (o : Origin) (ph : Phase) (x : Point) : State :=
  match o with
  | .routine => passing ph x .pending
  | .priority => { running ph x with
      scan := { Scan.initial with prioActive := true, prio := [⟨0, .pending⟩] } }

theorem witness_CursorFollowsTheDispatchTable :
    ∀ o ∈ [Origin.routine, .priority],
      (∀ s ∈ [atCursor o .idle (record .parked), atCursor o .offline (record .live),
          atCursor o .faulted (record .live), atCursor o .idle (record .live),
          atCursor o .idle { record .live with inFlight := some 1 }, atCursor o (.probing 5) (record .live),
          atCursor o (.busy conversion 5) (record .live), atCursor o (.cancelling conversion 5) (record .live)],
        ¬(s.scan.scanner = .pass ∧ allClosed s.scan.active)
        ∧ ¬(s.scan.prioActive = true ∧ allClosed s.scan.prio)
        ∧ (s.scan.prioActive = true ∧ o = .priority
          ∨ s.scan.prioActive = false ∧ s.scan.scanner = .pass ∧ o = .routine)
        ∧ s.scan.entries o = [] ++ ⟨0, .pending⟩ :: [] ∧ (s.pt 0).active.route.port = 0)
      ∧ ((atCursor o .idle (record .parked)).pt 0).state ≠ .live
      ∧ ((atCursor o .idle { record .live with inFlight := some 1 }).pt 0).inFlight ≠ none := by decide +kernel

/-- The four lines of R65. -/
theorem test_dispatch_table :
    let s (ph : Phase) (x : Point) := (atCursor .routine ph x).engineMove.map fun t => t.scan.active
    s .idle (record .parked) = some [⟨0, .skipped⟩] ∧ s .faulted (record .live) = some [⟨0, .faulted⟩]
      ∧ s .idle (record .live) = some [⟨0, .inFlight⟩] ∧ s (.probing 5) (record .live) = none
      ∧ s .idle { record .live with inFlight := some 1 } = none := by decide +kernel

/-- A pass with nothing left, and a run with nothing left. -/
def finished : State := passing .idle (record .live) .done

theorem witness_PassAndRunEnds :
    (finished.scan.scanner = .pass ∧ allClosed finished.scan.active ∧ (finished.scan.active.map Entry.point).Nodup)
      ∧ ∀ r ∈ [false, true],
        let s := { ready with scan := { ready.scan with prioActive := true, rerun := r } }
        ¬(s.scan.scanner = .pass ∧ allClosed s.scan.active) ∧ s.scan.prioActive = true
        ∧ allClosed s.scan.prio ∧ s.scan.rerun = r := by decide +kernel

/-- Steps 3 and 4 of 4.10: a tick in PASS is an overrun, and the late mark starts the next pass. -/
theorem test_late_pass :
    let s := ran .periodTick (ticked 90 converting)
    let t := ran (.timeout 0) s
    (s.scan.late = true ∧ s.attn.overrun = true ∧ s.scan.periodTimer = some 100000)
      ∧ t.scan.passCounter = 1#16 ∧ t.scan.scanner = .pass ∧ t.scan.active = [⟨0, .pending⟩]
      ∧ t.scan.late = false ∧ t.attn.overrun = true
      ∧ (ran (.cancelAck 0 3#4) t).scan.active = [⟨0, .inFlight⟩] := by decide +kernel

/-- Promotion at the pass-end: the staged SCALE group replaces the active one and clears the seeded flag. -/
theorem test_promotion :
    let s := ran (.result 0 3#4 5#16 .inRange) (did .edit (editScale 7#16) converting)
    (s.pt 0).active.scale = ⟨8192, -100, 2⟩ ∧ (s.pt 0).staged = none ∧ (s.pt 0).seeded = false
      ∧ (s.pt 0).quality = .good ∧ s.scan.cym = true := by decide +kernel

theorem witness_ScalingFollowsTheRule :
    let lowest : Scale := ⟨-32768, -8388608, 0⟩
    let highest : Scale := ⟨32767, 8388607, 7⟩
    (-32768 ≤ lowest.gain ∧ lowest.gain ≤ 32767 ∧ inEngRange lowest.offset)
      ∧ (-32768 ≤ highest.gain ∧ highest.gain ≤ 32767 ∧ inEngRange highest.offset)
      ∧ lowest.gain < 0 ∧ (0#16).toNat ≤ (65535#16).toNat := by decide

theorem witness_SmoothingApproachesTheSample :
    ((⟨4096, 0, 7⟩ : Scale).weight ≠ 0 ∧ (⟨4096, 0, 0⟩ : Scale).weight = 0)
      ∧ smoothed ⟨4096, 0, 1⟩ true 0 (-1) = -1 ∧ smoothed ⟨4096, 0, 7⟩ true 0 127 = 0
      ∧ smoothed ⟨4096, 0, 7⟩ true 0 128 = 1 := by decide +kernel

/-! ### Witnesses: the condition unit -/

/-- A condition entry of a point at a level, with a raise sequence. -/
def condition (n : PointNo) (seq : BitVec 32) (lv : Level) (ack : Bool) : CondEntry :=
  ⟨n, seq, lv, lv, ack, 0⟩

/-- Points 10 to 13 with the condition list of 7.7. -/
def conditions : State :=
  let p (lv : Level) (cls : CondClass) : Point :=
    { record .live with
      level := lv, peak := lv, active := { Profile.default with policy := ⟨1, cls, 0⟩ } }
  { State.reset with
    points := (((State.reset.points.set 10 (p .highWarn .notify)).set 11 (p .normal .notify)).set 12
      (p .normal .latch)).set 13 (p .highTrip .notify)
    cond := ⟨[condition 10 40#32 .highWarn false, condition 11 41#32 .normal false,
      condition 12 42#32 .normal true, condition 13 43#32 .highTrip false], 43#32⟩ }

/-- A full condition list of points 100 to 163, and a point in a condition part. -/
def crowded (x : Point) : State :=
  { State.reset with
    points := (State.reset.points.map fun y => { y with state := .live, level := .highTrip, peak := .highTrip }).set
      0 x
    cond := ⟨(List.range 64).map fun i => condition (Fin.ofNat 512 (100 + i)) 1#32 .highTrip true, 64#32⟩ }

theorem markLaw_conditions {s : State} (h : s.points = conditions.points) : s.MarkLaw := by
  intro n hn
  have hp : s.pt n = conditions.pt n := by simp [State.pt, h]
  rw [hp] at hn
  exfalso
  revert hn
  simp only [State.pt, conditions, Table.get_set, State.reset, Table.get_replicate]
  split <;> [skip; split <;> [skip; split <;> [skip; split]]] <;> simp [record, Point.initial]

theorem markLaw_crowded {x : Point} (hx : x.state = .live) : (crowded x).MarkLaw := by
  intro n hn
  by_cases h : n = 0
  · subst h
    refine ⟨by simp [crowded, Config.conditionCapacity], ?_, by simp [State.pt, crowded, hx, PointState.conditioned]⟩
    simp [State.entryOf, crowded, condition]
    decide +kernel
  · exfalso
    revert hn
    simp [State.pt, crowded, Table.get_set, Ne.symm h, State.reset, Point.initial]

/-- A marked live point in a class. -/
def marked (cls : CondClass) : Point :=
  { record .live with
    unlisted := true, level := .highWarn, peak := .highWarn
    active := { Profile.default with policy := ⟨1, cls, 0⟩ } }

theorem witness_ConditionListFollowsLevels :
    (conditions.ConditionListLaw ∧ conditions.MarkLaw)
      ∧ ((∀ e ∈ conditions.cond.list, e.point ≠ 0) ∧ (conditions.pt 0).unlisted = false
        ∧ conditions.cond.list.length < 64)
      ∧ ((crowded (record .live)).ConditionListLaw ∧ (crowded (record .live)).MarkLaw
        ∧ (∀ e ∈ (crowded (record .live)).cond.list, e.point ≠ 0)
        ∧ ((crowded (record .live)).pt 0).unlisted = false ∧ (crowded (record .live)).cond.list.length = 64)
      ∧ (∀ cls, (crowded (marked cls)).ConditionListLaw ∧ (crowded (marked cls)).MarkLaw
        ∧ ((crowded (marked cls)).pt 0).unlisted = true
        ∧ ((crowded (marked cls)).pt 0).active.policy.cls = cls
        ∧ ((crowded (marked cls)).entryOf 100).isSome = true)
      ∧ conditions.cond.list = [] ++ condition 10 40#32 .highWarn false :: conditions.cond.list.drop 1
      ∧ (conditions.entryOf 10).isSome = true := by
  refine ⟨⟨by decide +kernel, markLaw_conditions rfl⟩, by decide +kernel,
    ⟨by decide +kernel, markLaw_crowded rfl, by decide +kernel⟩, fun cls => ?_, by decide +kernel⟩
  refine ⟨?_, markLaw_crowded rfl, ?_⟩ <;> cases cls <;> decide +kernel

/-- Raise at the tail, re-arm, and the mark when 64 stand (R128, R130, R131; step 5 of 7.2 and 7.7). -/
theorem test_level_changes :
    (conditions.levelChange 0 .highTrip).cond.list.getLast? = some (condition 0 44#32 .highTrip false)
      ∧ ((conditions.levelChange 10 .highTrip).cond.list.head?.map CondEntry.repeats) = some 1
      ∧ ((crowded (record .live)).levelChange 0 .lowWarn).overflow = true
      ∧ ((crowded (marked .notify)).removeEntry 100).cond.list.getLast?
        = some (condition 0 65#32 .highWarn false) := by decide +kernel

theorem witness_AckAndCondClear :
    (∀ c ∈ [Cmd.ack, .condClear], ∀ n ∈ [0, 10, 11, 12, 13],
        (waiting .host c (num n) conditions).Takes c .host (num n) ∧ (num n).length = 5)
      ∧ (∀ n ∈ [10, 11, 12, 13], conditions.resolve (selectorAt (num n) 0) = .ok (Fin.ofNat 512 n))
      ∧ conditions.Works ∧ conditions.ConditionListLaw
      ∧ (one (record .live)).resolve (selectorAt (num 0) 0) = .ok 0
      ∧ (one (record .live)).cond.list = []
      ∧ (conditions.entryOf 11).map CondEntry.level = some .normal
      ∧ (conditions.entryOf 12).map CondEntry.acknowledged = some true
      ∧ (conditions.entryOf 13).map CondEntry.acknowledged = some false := by decide +kernel

/-- ACK and COND_CLEAR on the list of 7.7 (R135, R137). -/
theorem test_ack_and_clear :
    answer .ack (num 11) conditions = some (.ok, [0x00#8, 0x00#8, 0x00#8, 0x29#8, 0x01#8])
      ∧ answer .ack (num 12) conditions = some (.ok, [0x00#8, 0x00#8, 0x00#8, 0x2A#8, 0x00#8])
      ∧ answer .condClear (num 12) conditions = some (.ok, [0x00#8, 0x00#8, 0x00#8, 0x2A#8])
      ∧ answer .condClear (num 10) conditions = some (.badState, [])
      ∧ answer .ack (num 0) (one (record .live)) = some (.notListed, []) := by decide +kernel

theorem witness_AckUptoWalksFromTheHead :
    let ps : List Byte := [0x00#8, 0x00#8, 0x00#8, 0x2A#8]
    ((waiting .host .ackUpto ps conditions).Takes .ackUpto .host ps
        ∧ (waiting .host .ackUpto ps conditions).Works ∧ ps.length = 4
        ∧ (waiting .host .ackUpto ps conditions).ConditionListLaw)
      ∧ (waiting .host .ackUpto ps conditions).MarkLaw
      ∧ conditions.cond.list = conditions.cond.list.take 2 ++ condition 12 42#32 .normal true
        :: conditions.cond.list.drop 3
      ∧ (∀ f ∈ conditions.cond.list.take 2, f.seq ≠ wordAt32 ps 0) ∧ 42#32 = wordAt32 ps 0
      ∧ ∀ e ∈ (one (record .live)).cond.list, e.seq ≠ wordAt32 ps 0 :=
  ⟨by decide +kernel, markLaw_conditions rfl, by decide +kernel⟩

/-- The example of 7.7: 2 newly acknowledged, 1 removed, and points 10, 12 and 13 left. -/
theorem test_ack_upto :
    answer .ackUpto [0x00#8, 0x00#8, 0x00#8, 0x2A#8] conditions = some (.ok, [0x02#8, 0x01#8])
      ∧ (did .ackUpto [0x00#8, 0x00#8, 0x00#8, 0x2A#8] conditions).cond.list.map CondEntry.point = [10, 12, 13]
      ∧ (did .ackUpto [0x00#8, 0x00#8, 0x00#8, 0x2A#8] conditions).unacked = true := by decide +kernel

/-! ### Witnesses: the sample ports -/

theorem witness_PortConfigAndRestore :
    (∀ ps ∈ [[0x04#8, 0x01#8, 0x01#8], [0x00#8, 0x02#8, 0x01#8], [0x00#8, 0x01#8, 0x00#8],
          [0x00#8, 0x00#8, 0xFF#8], [0x00#8, 0x01#8, 0x01#8], [0x03#8, 0x01#8, 0x01#8]],
        (waiting .host .portConfig ps converting).Takes .portConfig .host ps
        ∧ (waiting .host .portConfig ps ready).Takes .portConfig .host ps)
      ∧ (converting.port 0).phase.draining = true ∧ (ready.port 0).phase.draining = false
      ∧ ((ready.port 3).enable = false ∧ (ready.port 3).phase = .offline) ∧ ready.run.mode = .active
      ∧ (∀ b ∈ [0x00#8, 0x03#8, 0x04#8],
        (waiting .host .portRestore [b] ready).Takes .portRestore .host [b])
      ∧ ((running .faulted (record .live)).port 0).enable = true
      ∧ (waiting .host .portRestore [0x00#8] (running .faulted (record .live))).Takes .portRestore .host
          [0x00#8] := by decide +kernel

/-- PORT_CONFIG and PORT_RESTORE (R100, R101). -/
theorem test_port_config :
    answer .portConfig [0x03#8, 0x01#8, 0x05#8] ready = some (.ok, [0x01#8])
      ∧ ((did .portConfig [0x03#8, 0x01#8, 0x05#8] ready).port 3).sent = [.probe]
      ∧ answer .portConfig [0x00#8, 0x00#8, 0x05#8] converting = some (.busy, [])
      ∧ answer .portConfig [0x00#8, 0x00#8, 0x05#8] ready = some (.ok, [0x00#8])
      ∧ answer .portRestore [0x00#8] (running .faulted (record .live)) = some (.ok, [])
      ∧ answer .portRestore [0x00#8] ready = some (.badState, []) := by decide +kernel

/-- A conversion in progress for a record that a ROUTE change superseded. -/
def superseded : State :=
  passing (.busy { conversion with superseded := true } 40) { record .live with inFlight := some 0 } .inFlight

/-- A conversion of a point that confirms over two samples, with hi_warn at 10. -/
def confirming (cand : Option Level) (k : Nat) : State :=
  passing (.busy conversion 40)
    { record .live with
      inFlight := some 0, candidate := cand, confirmCounter := k
      active := { Profile.default with band := ⟨none, none, some 10, none, 0⟩, policy := ⟨2, .notify, 0⟩ } }
    .inFlight

theorem witness_ResultIsTaken :
    (∀ s ∈ [converting, confirming none 0, confirming (some .highWarn) 1],
        s.heldInReset = false ∧ (s.port 0).phase = .busy conversion 40 ∧ conversion.seq = 3#4
        ∧ conversion.superseded = false ∧ (s.pt conversion.point).state = .live
        ∧ 1 ≤ (s.pt conversion.point).active.policy.confirm)
      ∧ (superseded.port 0).phase = .busy { conversion with superseded := true } 40
      ∧ indicatedBy 9#16 .inRange ((confirming none 0).pt 0) = ((confirming none 0).pt 0).level
      ∧ indicatedBy 10#16 .inRange ((confirming none 0).pt 0) = .highWarn := by decide +kernel

/-- A candidate, a confirmed level with its entry, a discarded result (R90, R125). -/
theorem test_result :
    ((ran (.result 0 3#4 10#16 .inRange) (confirming none 0)).pt 0).candidate = some .highWarn
      ∧ (ran (.result 0 3#4 10#16 .inRange) (confirming (some .highWarn) 1)).cond.list
        = [condition 0 1#32 .highWarn false]
      ∧ (ran (.result 0 3#4 10#16 .inRange) (confirming none 0)).isChanged .service 0 = true
      ∧ ((ran (.result 0 3#4 10#16 .inRange) superseded).pt 0).raw = 0#16
      ∧ (ran (.result 0 3#4 10#16 .inRange) superseded).scan.active = [⟨0, .skipped⟩] := by decide +kernel

/-- Port 0 CANCELLING for a RETIRING point in a mode, with another port in a phase and a timeout count. -/
def withdrawing (m : Mode) (other : Phase) (k : Nat) : State :=
  { one { record .retiring with inFlight := some 0 } with
    run := ⟨m, none⟩
    ports := (State.reset.ports.set 0 { SamplePort.initial with
      phase := .cancelling conversion 9, enable := true, timeoutCount := k }).set 1
        { SamplePort.initial with phase := other, enable := true } }

theorem witness_CancellingEnds :
    (∀ m ∈ [Mode.active, .quiescing], ∀ ph ∈ [Phase.idle, .cancelling { conversion with point := 1 } 3],
        (withdrawing m ph 3).heldInReset = false
        ∧ ((withdrawing m ph 3).port 0).phase = .cancelling conversion 9
        ∧ ((ticked 9 (withdrawing m ph 3)).port 0).phase = .cancelling conversion 0)
      ∧ (withdrawing .quiescing .idle 2).ModeLaw
      ∧ (withdrawing .quiescing (.cancelling { conversion with point := 1 } 3) 2).ModeLaw
      ∧ (∀ j, j ≠ 0 → ((withdrawing .quiescing .idle 2).port j).phase.draining = false)
      ∧ ((withdrawing .quiescing (.cancelling { conversion with point := 1 } 3) 2).port 1).phase.draining = true
      ∧ (ready.port 0).phase = .idle := by decide +kernel

/-- IDLE at a count of 2, FAULTED at 3 and at the expiry, QUIET at the last drain (R19, R93, R94, R192). -/
theorem test_cancelling_ends :
    ((ran (.cancelAck 0 3#4) (withdrawing .active .idle 2)).port 0).phase = .idle
      ∧ ((ran (.result 0 3#4 7#16 .over) (withdrawing .active .idle 3)).port 0).phase = .faulted
      ∧ ((ran (.cancelTimerExpiry 0) (ticked 9 (withdrawing .active .idle 0))).port 0).phase = .faulted
      ∧ ((ran (.cancelAck 0 3#4) (withdrawing .active .idle 2)).pt 0).state = .free
      ∧ (ran (.cancelTimerExpiry 0) (ticked 9 (withdrawing .quiescing .idle 0))).run.mode = .quiet
      ∧ ((ran (.cancelTimerExpiry 0) (ticked 9 (withdrawing .quiescing .idle 0))).port 0).phase = .offline := by
  decide +kernel

theorem witness_StraysAreOnlyCounted :
    converting.heldInReset = false ∧ (∀ r k, (converting.port 0).phase = .busy r k → r.seq ≠ 4#4)
      ∧ (converting.port 0).phase.isProbing = false
      ∧ ∀ m, m ≠ LinkRx.damaged → [0x81#8] ≠ linkRxBytes m := by
  refine ⟨by decide +kernel, fun r k h => ?_, by decide +kernel, fun m hm h => ?_⟩
  · have e : (converting.port 0).phase = .busy conversion 40 := by decide +kernel
    rw [e] at h
    injection h with h _
    subst h
    decide
  · have l := congrArg List.length h
    cases m <;> simp [linkRxBytes, closed, bytes16] at l hm

/-- A stray by its seq, by the state of the port, and by damage; the count stays at 255 (R96). -/
theorem test_strays :
    ((ran (.result 0 4#4 1#16 .inRange) converting).port 0).strayCount = 1
      ∧ ((ran (.cancelAck 0 3#4) converting).port 0).strayCount = 1
      ∧ ((ran (.present 0 2) converting).port 0).strayCount = 1
      ∧ ((ran (.damagedMessage 2 [0x81#8]) converting).port 2).strayCount = 1
      ∧ ({ SamplePort.initial with strayCount := 255 } : SamplePort).stray.strayCount = 255 := by decide +kernel

theorem witness_TimeoutWithdrawsAndFaults :
    converting.heldInReset = false ∧ (converting.port 0).phase = .busy conversion 40
      ∧ 1 ≤ (converting.port 0).timeout ∧ (ready.port 0).phase = .idle
      ∧ ((ticked 40 converting).port 0).phase = .busy conversion 0
      ∧ ((ticked 40 converting).pt conversion.point).state = .live
      ∧ ((ticked 40 superseded).port 0).phase = .busy { conversion with superseded := true } 0 := by
  decide +kernel

/-- The RESULT at the moment the timer runs out, taken first: the late pass dispatches the point anew, and the
expiry that waits times nothing out (R99). -/
theorem test_result_before_timeout :
    let s := { ticked 40 converting with scan := { converting.scan with late := true } }
    let t := ran (.result 0 3#4 7#16 .inRange) s
    t.scan.active = [⟨0, .inFlight⟩] ∧ (t.port 0).phase.draining = true
      ∧ (ran (.timeout 0) t).scan.active = [⟨0, .inFlight⟩] ∧ (ran (.timeout 0) t).port 0 = t.port 0
      ∧ (ran (.timeout 0) s).scan.active ≠ [⟨0, .inFlight⟩] := by decide +kernel

theorem witness_ProbesEnd :
    let probing : SamplePort := { SamplePort.initial with phase := .probing 3, enable := true }
    let two : State := { waking with ports := waking.ports.set 1 probing }
    (∀ s ∈ [waking, two, running (.probing 9) (record .live)],
        s.heldInReset = false ∧ (s.port 0).phase = .probing 9
        ∧ ((ticked 9 s).port 0).phase = .probing 0)
      ∧ waking.ModeLaw ∧ two.ModeLaw ∧ (two.port 1).phase.isProbing = true
      ∧ (∀ j, j ≠ 0 → (waking.port j).phase.isProbing = false)
      ∧ (running (.probing 9) (record .live)).run.mode ≠ .waking := by decide +kernel

/-- PRESENT and the probe timer in WAKING (R97, R98, R189). -/
theorem test_probes_end :
    ((ran (.present 0 5) waking).port 0).cls = some 5 ∧ (ran (.present 0 5) waking).run = ⟨.active, some 1000⟩
      ∧ ((ran (.probeTimerExpiry 0) (ticked 9 waking)).port 0).absent = true
      ∧ ((ran (.probeTimerExpiry 0) (ticked 9 waking)).port 0).phase = .offline
      ∧ (ran .wakeGuardExpiry { ready with run := ⟨.active, some 0⟩ }).run = ⟨.active, none⟩ := by
  decide +kernel

/-! ### Witnesses: the device group, the command ports, the timers -/

theorem witness_QuietEntryAndExit :
    ((∀ s ∈ [State.reset, ready, converting], (waiting .host .enterQuiet [] s).Takes .enterQuiet .host []
          ∧ (waiting .host .exitQuiet [] s).Takes .exitQuiet .host [])
        ∧ State.reset.run.mode = .quiet ∧ ready.run = ⟨.active, none⟩
        ∧ (ran (.present 0 5) waking).run = ⟨.active, some 1000⟩
        ∧ (waiting .host .enterQuiet [] (ran (.present 0 5) waking)).Takes .enterQuiet .host []
        ∧ (∀ i, (State.reset.port i).enable = false)
        ∧ ({ ready with run := ⟨.quiet, none⟩ } : State).run.mode = .quiet ∧ (ready.port 0).enable = true)
      ∧ (∀ s ∈ [converting, ready], (waiting .host .enterQuiet [] s).ListLaw)
      ∧ ((waiting .host .enterQuiet [] converting).RecordLaw
        ∧ (waiting .host .enterQuiet [] converting).FlightLaw)
      ∧ (waiting .host .enterQuiet [] ready).RecordLaw ∧ (waiting .host .enterQuiet [] ready).FlightLaw :=
  ⟨by decide +kernel, by decide +kernel, ⟨recordLaw_converting, flightLaw_converting⟩, laws_ready⟩

/-- QUIESCING with one port, QUIET with none, WAKING with one, ACTIVE with none (R188, R191). -/
theorem test_quiet_entry_and_exit :
    answer .enterQuiet [] converting = some (.ok, [0x03#8, 0x01#8])
      ∧ answer .enterQuiet [] ready = some (.ok, [0x00#8, 0x00#8])
      ∧ answer .exitQuiet [] { ready with run := ⟨.quiet, none⟩ } = some (.ok, [0x01#8, 0x01#8])
      ∧ answer .exitQuiet [] State.reset = some (.ok, [0x02#8, 0x00#8])
      ∧ answer .enterQuiet [] (did .exitQuiet [] State.reset) = some (.busy, []) := by decide +kernel

/-- Commands waiting at both ports, the host port's SOFT_RESET next. -/
def both : State :=
  { converting with cmdPorts :=
      ⟨{ CommandPort.initial with state := .waiting ⟨opcodeOf .softReset, []⟩ },
        { CommandPort.initial with state := .waiting ⟨opcodeOf .status, []⟩ }⟩ }

theorem witness_SoftResetKeepsTheConfiguration :
    (waiting .host .softReset [] converting).Takes .softReset .host [] ∧ both.Takes .softReset .host [] := by
  decide +kernel

/-- SOFT_RESET keeps lists and profiles, and answers the other port ABANDONED (R185, R195). -/
theorem test_soft_reset :
    let t := ran (.softReset .host []) both
    (t.cmd .host).state = .done ⟨.ok, false, [0x02#8]⟩
      ∧ (t.cmd .service).state = .done ⟨.abandoned, false, []⟩ ∧ t.run.mode = .quiet
      ∧ t.scan.active = [⟨0, .none⟩] ∧ (t.pt 0).state = .live ∧ (t.pt 0).inFlight = none
      ∧ (t.port 0).phase = .offline := by decide +kernel

/-- The port in a state after reset. -/
def portAt (p : CmdPort) (c : CommandPort) : State :=
  { State.reset with cmdPorts := State.reset.cmdPorts.set p c }

/-- The IDENTIFY response in the buffer. -/
def answered : CommandPort :=
  { CommandPort.initial with state := .done ⟨.ok, false, identifyData⟩ }

theorem witness_FramesArriveAtAPort :
    (State.reset.heldInReset = false ∧ [0x73#8, 0x00#8, 0x9D#8].head? ≠ some 0x00#8
        ∧ [0x73#8, 0x00#8, 0x9D#8] = frameBytes ⟨0x73#8, []⟩
        ∧ (frameBytes ⟨0x14#8, List.replicate 40 0x00#8⟩).length = 43
        ∧ (Bus.i2c 0x48#7 = .i2c State.reset.i2cAddress) ∧ 0x49#7 ≠ State.reset.i2cAddress)
      ∧ (∀ f : Frame, [0x73#8] ≠ frameBytes f)
      ∧ ((waiting .host .identify [] State.reset).cmd .host).state = .waiting ⟨0x73#8, []⟩ := by
  refine ⟨by decide +kernel, fun f h => ?_, by decide +kernel⟩
  have l := congrArg List.length h
  simp [frameBytes, closed] at l

/-- The acknowledge of a frame dropped, of one refused, of a write at another address and of a read (R164). -/
theorem test_acknowledges :
    (ran (.commandFrame (.i2c 0x48#7) [0x73#8, 0x00#8]) (waiting .service .identify [] State.reset)).i2cAcks
        = [true, true, true]
      ∧ (ran (.commandFrame (.i2c 0x48#7) [0x73#8]) State.reset).i2cAcks = [true, true]
      ∧ (ran (.commandFrame (.i2c 0x00#7) [0x73#8]) State.reset).i2cAcks = [false, false]
      ∧ (ran (.fetch (.i2c 0x48#7)) State.reset).i2cAcks = [true] := by decide +kernel

/-- Arrival, FRAME, overlap, and another address (R164 to R167). -/
theorem test_frames :
    ((ran (.commandFrame .spi [0x73#8, 0x00#8, 0x9D#8]) State.reset).cmd .host).state = .waiting ⟨0x73#8, []⟩
      ∧ ((ran (.commandFrame .spi [0x73#8]) State.reset).cmd .host).state = .done ⟨.frame, false, []⟩
      ∧ ((ran (.commandFrame .spi [0x73#8]) (waiting .host .identify [] State.reset)).cmd .host).overlap = true
      ∧ ((ran (.commandFrame (.i2c 0x48#7) [0x73#8, 0x00#8, 0x9D#8]) State.reset).cmd .service).state
        = .waiting ⟨0x73#8, []⟩
      ∧ ((ran (.commandFrame (.i2c 0x49#7) [0x73#8, 0x00#8, 0x9D#8]) State.reset).cmd .service).state
        = .ready := by decide +kernel

theorem witness_FetchesReturnTheResponse :
    ((portAt .host answered).cmd .host).state = .done ⟨.ok, false, identifyData⟩
      ∧ ((waiting .host .identify [] State.reset).cmd .host).state = .waiting ⟨0x73#8, []⟩
      ∧ (State.reset.cmd .host).state = .ready ∧ (State.reset.cmd .host).fetching = none
      ∧ ((ran (.fetch .spi) (portAt .host answered)).cmd .host).fetching
        = some ⟨responseBytes ⟨.ok, false, identifyData⟩, true⟩
      ∧ (responseBytes ⟨.ok, false, identifyData⟩).length = 8
      ∧ (ran (.fetch .spi) (portAt .host answered)).heldInReset = false := by decide +kernel

/-- A fetch read to its CRC byte empties the buffer, one byte less keeps it; a marker changes nothing (R168,
R169, R200). -/
theorem test_fetches :
    let s := ran (.fetch .spi) (portAt .host answered)
    ((ran (.fetchEnd .host 8) s).cmd .host).state = .ready
      ∧ ((ran (.fetchEnd .host 7) s).cmd .host).state = .done ⟨.ok, false, identifyData⟩
      ∧ ((ran (.fetchEnd .host 6) s).cmd .host).shifted
        = [0xFF#8, 0x00#8, 0x00#8, 0x04#8, 0xB7#8, 0x51#8, 0x20#8]
      ∧ ((ran (.fetchEnd .service 6) (ran (.fetch (.i2c 0x48#7)) State.reset)).cmd .service).shifted
        = closed [0x15#8, 0x00#8, 0x01#8, 0x00#8] ++ [0xFF#8] := by decide +kernel

theorem witness_TimersExpire :
    (∀ s ∈ [gapped, converting], s.heldInReset = false ∧ s.scan.periodTimer = some 90
        ∧ (ticked 90 s).heldInReset = false ∧ (ticked 90 s).scan.periodTimer = some 0)
      ∧ ready.heldInReset = false ∧ ready.run.wakeGuard = none
      ∧ ({ ready with run := ⟨.active, some 0⟩ } : State).run.wakeGuard = some 0
      ∧ gapped.scan.scanner = .gap ∧ converting.scan.scanner = .pass ∧ ready.scan.periodTimer = none
      ∧ (⟨.service, 0, 800⟩ : HoldRecord) ∈ held.holds ∧ held.HoldLaw ∧ held.heldInReset = false
      ∧ (⟨.service, 0, 0⟩ : HoldRecord) ∈ (runOut .service).holds ∧ (runOut .service).HoldLaw
      ∧ (runOut .service).heldInReset = false ∧ ∀ x ∈ ready.holds, x.point ≠ 0 := by decide +kernel

/-- A tick in GAP starts the pass and drives CYM low (R64, R70, R82). -/
theorem test_tick_in_gap :
    let s := ticked 90 { gapped with scan := { gapped.scan with cym := true } }
    s.cymHigh = true ∧ (ran .periodTick s).scan.scanner = .pass ∧ (ran .periodTick s).cymHigh = false := by
  decide +kernel

/-- The second sequence of 9.10: HOLD_EXPIRED pulls ATTN_N low once the mask names it. -/
theorem test_attention :
    let s := ran (.holdExpiry 0) (runOut .service)
    s.attnLow = false ∧ (did .attnMask [0x47#8] s).attnLow = true
      ∧ (did .clearFlags [0x40#8] (did .attnMask [0x47#8] s)).attnLow = false := by decide +kernel

/-! ### Witnesses: the invariants

Each is shown at the pass with a conversion in progress, before the RESULT that ends it. -/

/-- The pass with the RESULT of its conversion next. -/
def next : State := { converting with pending := [.result 0 3#4 100#16 .inRange] }

theorem step_next : ∃ t, step next = .next t :=
  exec_next (.result 0 3#4 100#16 .inRange) converting

theorem witness_EveryStepKeepsTheModeLaws : next.ModeLaw ∧ next.GuardLaw ∧ next.EnableLaw := by decide +kernel

theorem witness_EveryStepLeavesTheEngineSettled : next.ModeLaw ∧ next.Settled := by decide +kernel

theorem witness_EveryStepKeepsTheScanLaws : next.ScannerLaw ∧ next.TimerLaw ∧ next.RunLaw :=
  ⟨by decide +kernel, by decide +kernel, by decide +kernel⟩

theorem witness_EveryStepKeepsMarksAndRecords : next.RecordLaw ∧ next.FlightLaw :=
  ⟨recordLaw_converting, flightLaw_converting⟩

theorem witness_EveryStepKeepsTheIndexAndTheLists : next.IndexLaw ∧ next.ListLaw :=
  ⟨indexLaw_converting rfl rfl, by decide +kernel⟩

theorem witness_EveryStepKeepsTheConditionLaws :
    next.ConditionListLaw ∧ next.MarkLaw ∧ next.CalmLaw :=
  conditionLaws_of_one (x := { record .live with inFlight := some 0 }) rfl rfl rfl rfl rfl nofun

theorem witness_EveryStepKeepsTheAccessLaws : next.StagedLaw ∧ next.HoldLaw ∧ next.ChangeLaw := by
  refine ⟨fun n => ?_, by decide +kernel, fun p n h => ?_⟩
  · rw [pt_of_one (s := next) (x := { record .live with inFlight := some 0 }) rfl n]
    split <;> simp [Point.initial, record]
  · exfalso
    revert h
    cases p <;> simp [State.isChanged, next, converting, passing, running, one, State.reset, ChangeSet.initial,
      Both.get]

/-- The conversion at the end of its time, its expiry next. -/
def overdue : State := { ticked 40 converting with pending := [.timeout 0] }

theorem witness_EveryStepKeepsTheRanges :
    (∃ t, step overdue = .next t) ∧ overdue.RangeLaw
      ∧ (overdue.HoldLaw ∧ overdue.ExpiryLaw ∧ overdue.dueExpiries = [.timeout 0])
      ∧ ({ runOut .host with pending := [.holdExpiry 0] } : State).ExpiryLaw
      ∧ (runOut .host).dueExpiries = [.holdExpiry 0] := by
  refine ⟨exec_next (.timeout 0) _, ⟨fun n => ?_, by decide +kernel, by decide +kernel, fun k h => ?_, ?_, nofun,
    nofun⟩, by decide +kernel, by decide +kernel, by decide +kernel⟩
  · rw [pt_of_one (s := overdue) (x := { record .live with inFlight := some 0 }) (ticked_points 40 converting) n]
    split <;> simp [Point.initial, record, Profile.default, Profile.legal, Band.inOrder, ordered, inEngRange]
  · have e : (ticked 40 converting).scan.periodTimer = some 50 := by decide +kernel
    cases e.symm.trans h
    decide
  · intro i
    revert i
    decide +kernel

theorem witness_OnlyTheirStepsMoveIdentityAndValue :
    (∃ t, exec .ptrig ready = .next t) ∧ (∀ b, Instr.ptrig ≠ .powerOn b) ∧ (∀ e, Instr.ptrig ≠ .resetN e)
      ∧ (∀ p ps, Instr.ptrig ≠ .define p ps)
      ∧ (∀ p ps, Instr.ptrig ≠ .edit p ps ∧ Instr.ptrig ≠ .activate p ps ∧ Instr.ptrig ≠ .park p ps
        ∧ Instr.ptrig ≠ .unpark p ps ∧ Instr.ptrig ≠ .retire p ps)
      ∧ (∀ i seq code range, Instr.ptrig ≠ .result i seq code range)
      ∧ ∀ i burst, Instr.ptrig ≠ .damagedMessage i burst :=
  ⟨exec_next _ _, nofun, nofun, nofun, fun _ _ => ⟨nofun, nofun, nofun, nofun, nofun⟩, nofun, nofun⟩

end Sys2Proof.Tests
end

/-! SUPPORT. Staged changes and the cycle boundary: what a write of an active profile, a promotion and
an aging do to each record, sample port and change set, and the statements about EDIT, the routine-list
edits and the ends of passes and runs. -/

namespace Sys2Proof.Machine

/-! ### States that differ in records, sample ports and change sets alone -/

/-- From `s` to `v` nothing moves but records, sample ports and change sets. -/
def State.RecordsMove (s v : State) : Prop :=
  v = { s with points := v.points, ports := v.ports, changed := v.changed }

theorem State.RecordsMove.refl (s : State) : s.RecordsMove s := rfl

theorem State.RecordsMove.trans {s v w : State} (h : s.RecordsMove v) (k : v.RecordsMove w) :
    s.RecordsMove w := by
  unfold State.RecordsMove at *
  calc
    w = { v with points := w.points, ports := w.ports, changed := w.changed } := k
    _ = { s with points := w.points, ports := w.ports, changed := w.changed } := by rw [h]

theorem State.recordsMove_modPt (s : State) (n : PointNo) (f : Point → Point) :
    s.RecordsMove (s.modPt n f) := rfl

theorem State.recordsMove_mark (s : State) (n : PointNo) : s.RecordsMove (s.mark n) := rfl

theorem State.recordsMove_modPort (s : State) (i : PortNo) (f : SamplePort → SamplePort) :
    s.RecordsMove (s.modPort i f) := rfl

theorem State.recordsMove_foldl {α : Type} {f : State → α → State} (hf : ∀ (s : State) a, s.RecordsMove (f s a))
    (l : List α) (s : State) : s.RecordsMove (l.foldl f s) := by
  induction l generalizing s with
  | nil => exact .refl s
  | cons a l ih => exact (hf s a).trans (ih _)

theorem State.modPt_modPt (s : State) (n : PointNo) (f g : Point → Point) :
    (s.modPt n f).modPt n g = s.modPt n fun x => g (f x) := by
  rw [State.modPt, State.modPt_pt_self]
  simp [State.modPt, State.setPt]

/-! ### Operations on one record, and their repetition over a list -/

/-- The operation `f` at a record replaces that record by its image under `g`, puts the point in both
change sets where `c` holds of the record, and leaves every other record, membership and cursor. -/
structure ActsOnRecord (f : State → PointNo → State) (g : Point → Point) (c : Point → Bool) : Prop where
  pt : ∀ s n m, (f s n).pt m = if n = m then g (s.pt n) else s.pt m
  isChanged : ∀ s n q m, (f s n).isChanged q m = true ↔ s.isChanged q m = true ∨ (n = m ∧ c (s.pt n) = true)
  cursor : ∀ s n q, ((f s n).changed.get q).cursor = (s.changed.get q).cursor

section

variable {f : State → PointNo → State} {g : Point → Point} {c : Point → Bool} (h : ActsOnRecord f g c)
  {l : List PointNo}

include h

theorem ActsOnRecord.foldl_pt (hl : l.Nodup) (s : State) (m : PointNo) :
    (l.foldl f s).pt m = if m ∈ l then g (s.pt m) else s.pt m := by
  induction l generalizing s with
  | nil => simp
  | cons a l ih =>
    obtain ⟨ha, hl⟩ := List.nodup_cons.1 hl
    rw [List.foldl_cons, ih hl, h.pt]
    by_cases e : a = m
    · subst e; simp [ha]
    · simp [e, Ne.symm e]

theorem ActsOnRecord.foldl_isChanged (hl : l.Nodup) (s : State) (q : CmdPort) (m : PointNo) :
    (l.foldl f s).isChanged q m = true ↔ s.isChanged q m = true ∨ (m ∈ l ∧ c (s.pt m) = true) := by
  induction l generalizing s with
  | nil => simp
  | cons a l ih =>
    obtain ⟨ha, hl⟩ := List.nodup_cons.1 hl
    rw [List.foldl_cons, ih hl, h.isChanged, h.pt]
    by_cases e : a = m
    · subst e; simp [ha]
    · simp [e, Ne.symm e]

theorem ActsOnRecord.foldl_cursor (s : State) (q : CmdPort) :
    ((l.foldl f s).changed.get q).cursor = (s.changed.get q).cursor := by
  induction l generalizing s with
  | nil => rfl
  | cons a l ih => rw [List.foldl_cons, ih, h.cursor]

end

/-! ### The outstanding conversion of a point (R45) -/

/-- The sample port with its outstanding record, if it has one, marked superseded (R45). -/
def SamplePort.supersedeRecord (x : SamplePort) : SamplePort :=
  { x with phase := x.phase.mapRecord fun r => { r with superseded := true } }

@[simp] theorem SamplePort.supersedeRecord_idem (x : SamplePort) :
    x.supersedeRecord.supersedeRecord = x.supersedeRecord := by
  obtain ⟨phase⟩ := x
  cases phase <;> rfl

@[simp] theorem State.supersede_pt (s : State) (n : PointNo) : (s.supersede n).pt = s.pt := by
  unfold State.supersede; split <;> rfl

@[simp] theorem State.supersede_changed (s : State) (n : PointNo) : (s.supersede n).changed = s.changed := by
  unfold State.supersede; split <;> rfl

@[simp] theorem State.supersede_isChanged (s : State) (n : PointNo) :
    (s.supersede n).isChanged = s.isChanged := by
  funext q m; simp [State.isChanged]

theorem State.supersede_port (s : State) (n : PointNo) (i : PortNo) :
    (s.supersede n).port i =
      if (s.pt n).inFlight = some i then (s.port i).supersedeRecord else s.port i := by
  unfold State.supersede
  split
  · rename_i j hj
    rw [State.modPort_port, hj]
    by_cases e : j = i
    · subst e; simp [SamplePort.supersedeRecord]
    · simp [e]
  · simp [*]

theorem State.recordsMove_supersede (s : State) (n : PointNo) : s.RecordsMove (s.supersede n) := by
  unfold State.supersede; split <;> rfl

/-! ### The effects of a ROUTE change (R44, R45) -/

/-- A record after a change of its ROUTE group (R44). -/
def Point.routeChanged (x : Point) : Point :=
  { x with quality := .unscanned, seeded := false, candidate := none, confirmCounter := 0 }

theorem State.routeEffects_acts :
    ActsOnRecord State.routeEffects Point.routeChanged fun x => x.quality != .unscanned where
  pt s n m := by
    unfold State.routeEffects
    rw [State.supersede_pt]
    split
    · exact State.modPt_pt ..
    · rw [State.mark_pt]; exact State.modPt_pt ..
  isChanged s n q m := by
    unfold State.routeEffects
    rw [State.supersede_isChanged]
    split
    · simp [*]
    · by_cases e : n = m
      · subst e; simp [State.mark_isChanged, *]
      · simp [State.mark_isChanged, e]
  cursor s n q := by
    unfold State.routeEffects
    rw [State.supersede_changed]
    split
    · rfl
    · exact State.mark_cursor ..

theorem State.routeEffects_port (s : State) (n : PointNo) (i : PortNo) :
    (s.routeEffects n).port i =
      if (s.pt n).inFlight = some i then (s.port i).supersedeRecord else s.port i := by
  unfold State.routeEffects
  rw [State.supersede_port]
  split <;> simp

theorem State.recordsMove_routeEffects (s : State) (n : PointNo) : s.RecordsMove (s.routeEffects n) := by
  unfold State.routeEffects
  refine State.RecordsMove.trans ?_ (State.recordsMove_supersede ..)
  split <;> rfl

/-! ### Writing an active profile (R41, R44 to R46) -/

/-- A record with another active profile and, after a change of its SCALE group, no longer seeded
(R46). -/
def Point.withScale (pr : Profile) (x : Point) : Point :=
  { x with active := pr, seeded := if x.active.scale = pr.scale then x.seeded else false }

/-- A write of an active profile is the write of the record, followed where the ROUTE group changes by
the effects of that change. -/
theorem State.writeActive_eq (s : State) (n : PointNo) (pr : Profile) :
    s.writeActive n pr =
      if (s.pt n).active.route = pr.route then s.modPt n (Point.withScale pr)
      else (s.modPt n (Point.withScale pr)).routeEffects n := by
  have hscale :
      (if (s.pt n).active.scale = pr.scale then s.modPt n fun x => { x with active := pr }
        else (s.modPt n fun x => { x with active := pr }).modPt n fun x => { x with seeded := false })
      = s.modPt n (Point.withScale pr) := by
    rw [State.modPt_modPt]
    split <;> simp [State.modPt, Point.withScale, *]
  simp only [State.writeActive, hscale]

theorem Point.withScale_of_route {x : Point} {pr : Profile} (h : x.active.route = pr.route) :
    x.withScale pr = x.withActive pr := by
  simp [Point.withScale, Point.withActive, h, eq_comm]

theorem Point.withScale_routeChanged {x : Point} {pr : Profile} (h : x.active.route ≠ pr.route) :
    (x.withScale pr).routeChanged = x.withActive pr := by
  simp [Point.withScale, Point.routeChanged, Point.withActive, h.symm]

theorem State.writeActive_acts (pr : Profile) :
    ActsOnRecord (fun s n => s.writeActive n pr) (fun x => x.withActive pr)
      fun x => pr.route != x.active.route && x.quality != .unscanned where
  pt s n m := by
    rw [State.writeActive_eq]
    split
    · rename_i hr
      rw [State.modPt_pt, Point.withScale_of_route hr]
    · rename_i hr
      rw [State.routeEffects_acts.pt, State.modPt_pt_self, Point.withScale_routeChanged hr, State.modPt_pt]
      split <;> rfl
  isChanged s n q m := by
    rw [State.writeActive_eq]
    split
    · simp [*]
    · rename_i hr
      rw [State.routeEffects_acts.isChanged]
      simp [Point.withScale, Ne.symm hr]
  cursor s n q := by
    rw [State.writeActive_eq]
    split
    · rfl
    · exact State.routeEffects_acts.cursor ..

theorem State.writeActive_port (s : State) (n : PointNo) (pr : Profile) (i : PortNo) :
    (s.writeActive n pr).port i =
      if pr.route ≠ (s.pt n).active.route ∧ (s.pt n).inFlight = some i then (s.port i).supersedeRecord
      else s.port i := by
  rw [State.writeActive_eq]
  split
  · simp [*]
  · rename_i hr
    rw [State.routeEffects_port]
    simp [Point.withScale, Ne.symm hr]

theorem State.recordsMove_writeActive (s : State) (n : PointNo) (pr : Profile) :
    s.RecordsMove (s.writeActive n pr) := by
  rw [State.writeActive_eq]
  split
  · exact State.recordsMove_modPt ..
  · exact (State.recordsMove_modPt ..).trans (State.recordsMove_routeEffects ..)

/-! ### Promotion of the staged profiles (R42, R43) -/

theorem State.promotePoint_of_none {s : State} {n : PointNo} (h : (s.pt n).staged = none) :
    s.promotePoint n = s := by
  simp [State.promotePoint, h]

theorem State.promotePoint_of_some {s : State} {n : PointNo} {pr : Profile}
    (h : (s.pt n).staged = some pr) :
    s.promotePoint n = (s.modPt n fun x => { x with staged := none }).writeActive n pr := by
  simp [State.promotePoint, h]

theorem Point.promoted_of_none {x : Point} (h : x.staged = none) : x.promoted = x := by
  simp [Point.promoted, h]

theorem Point.promoted_of_some {x : Point} {pr : Profile} (h : x.staged = some pr) :
    x.promoted = { x with staged := none }.withActive pr := by
  simp [Point.promoted, h]

theorem Point.reroutes_of_none {x : Point} (h : x.staged = none) : x.reroutes = false := by
  simp [Point.reroutes, h]

theorem Point.reroutes_of_some {x : Point} {pr : Profile} (h : x.staged = some pr) :
    x.reroutes = (pr.route != x.active.route) := by
  simp [Point.reroutes, h]

theorem State.promotePoint_acts :
    ActsOnRecord State.promotePoint Point.promoted fun x => x.reroutes && x.quality != .unscanned where
  pt s n m := by
    cases h : (s.pt n).staged with
    | none =>
      rw [State.promotePoint_of_none h, Point.promoted_of_none h]
      split <;> simp [*]
    | some pr =>
      rw [State.promotePoint_of_some h, (State.writeActive_acts pr).pt, State.modPt_pt_self,
        State.modPt_pt, Point.promoted_of_some h]
      split <;> rfl
  isChanged s n q m := by
    cases h : (s.pt n).staged with
    | none => simp [State.promotePoint_of_none h, Point.reroutes_of_none h]
    | some pr =>
      rw [State.promotePoint_of_some h, (State.writeActive_acts pr).isChanged, Point.reroutes_of_some h]
      simp
  cursor s n q := by
    cases h : (s.pt n).staged with
    | none => rw [State.promotePoint_of_none h]
    | some pr => rw [State.promotePoint_of_some h, (State.writeActive_acts pr).cursor]; rfl

/-- Whether the promotion of a record supersedes the conversion outstanding at sample port `i`
(R44, R45). -/
def Point.supersedesAt (i : PortNo) (x : Point) : Bool := x.reroutes && x.inFlight == some i

theorem State.promotePoint_port (s : State) (n : PointNo) (i : PortNo) :
    (s.promotePoint n).port i =
      if (s.pt n).supersedesAt i then (s.port i).supersedeRecord else s.port i := by
  cases h : (s.pt n).staged with
  | none => simp [State.promotePoint_of_none h, Point.supersedesAt, Point.reroutes_of_none h]
  | some pr =>
    rw [State.promotePoint_of_some h, State.writeActive_port]
    simp [Point.supersedesAt, Point.reroutes_of_some h]

theorem State.foldl_promotePoint_port {l : List PointNo} (hl : l.Nodup) (s : State) (i : PortNo) :
    (l.foldl State.promotePoint s).port i =
      if ∃ n ∈ l, (s.pt n).supersedesAt i = true then (s.port i).supersedeRecord else s.port i := by
  induction l generalizing s with
  | nil => simp
  | cons a l ih =>
    obtain ⟨ha, hl⟩ := List.nodup_cons.1 hl
    have hrest : (∃ n ∈ l, ((s.promotePoint a).pt n).supersedesAt i = true)
        ↔ ∃ n ∈ l, (s.pt n).supersedesAt i = true := by
      refine exists_congr fun n => and_congr_right fun hn => ?_
      rw [State.promotePoint_acts.pt, if_neg fun e : a = n => ha (e ▸ hn)]
    simp only [List.foldl_cons, ih hl, hrest, State.promotePoint_port, List.exists_mem_cons_iff]
    by_cases h1 : (s.pt a).supersedesAt i = true
    · simp [h1]
    · simp [h1]

theorem State.recordsMove_promotePoint (s : State) (n : PointNo) : s.RecordsMove (s.promotePoint n) := by
  cases h : (s.pt n).staged with
  | none => rw [State.promotePoint_of_none h]; exact .refl s
  | some pr =>
    rw [State.promotePoint_of_some h]
    exact (State.recordsMove_modPt ..).trans (State.recordsMove_writeActive ..)

/-- A record whose ROUTE group changes at a promotion has a staged profile. -/
theorem Point.staged_of_reroutes {x : Point} (h : x.reroutes = true) : x.staged.isSome = true := by
  cases hs : x.staged with
  | none => simp [Point.reroutes_of_none hs] at h
  | some pr => rfl

/-- The promotion of every staged profile, block by block (R42 to R46). -/
theorem State.promoteProfiles_promotesTo (s : State) : s.PromotesTo s.promoteProfiles := by
  have hl := s.points.indices_nodup fun x => x.staged.isSome
  have hmem (n : PointNo) : n ∈ s.points.indices (fun x => x.staged.isSome)
      ↔ (s.pt n).staged.isSome = true := Table.mem_indices ..
  have hport := State.foldl_promotePoint_port hl s
  refine ⟨State.recordsMove_foldl State.recordsMove_promotePoint _ s, fun n => ?_,
    fun i => ⟨fun ⟨n, hr, hi⟩ => ?_, fun hno => ?_⟩, fun q => ⟨?_, fun n => ?_⟩⟩
  · refine (State.promotePoint_acts.foldl_pt hl s n).trans ?_
    split
    · rfl
    · rename_i hn
      exact (Point.promoted_of_none (by simpa [hmem] using hn)).symm
  · exact (hport i).trans <| if_pos
      ⟨n, (hmem n).2 (Point.staged_of_reroutes hr), by simp [Point.supersedesAt, hr, hi]⟩
  · refine (hport i).trans <| if_neg fun ⟨n, _, hn⟩ => ?_
    simp only [Point.supersedesAt, Bool.and_eq_true, beq_iff_eq] at hn
    exact hno n hn.1 hn.2
  · exact State.promotePoint_acts.foldl_cursor s q
  · refine (State.promotePoint_acts.foldl_isChanged hl s q n).trans (or_congr_right ?_)
    simp only [hmem, Bool.and_eq_true, bne_iff_ne]
    exact ⟨And.right, fun h => ⟨Point.staged_of_reroutes h.1, h⟩⟩

/-! ### Aging at a pass-end (R112) -/

theorem State.setPt_pt_eq (s : State) (n : PointNo) : s.setPt n (s.pt n) = s := by
  simp [State.setPt, State.pt]

/-- The test on the incremented age is the test of R112 on the record as it stood. -/
theorem Point.turnsStale_older {x : Point} (h : x.state = .live) : x.older.turnsStale = x.stales := by
  simp [Point.turnsStale, Point.older, Point.stales, h]

/-- Aging of one point ages its record, and marks the point where the record turns STALE. -/
theorem State.agePoint_eq (s : State) (n : PointNo) :
    s.agePoint n =
      if (s.pt n).stales then (s.modPt n Point.aged).mark n else s.modPt n Point.aged := by
  by_cases hlive : (s.pt n).state = .live
  · simp only [State.agePoint, hlive, if_true, Point.turnsStale_older hlive]
    split <;> simp [State.modPt, Point.aged, Point.older, *]
  · simp [State.agePoint, Point.stales, State.modPt, Point.aged, State.setPt_pt_eq, hlive]

theorem State.agePoint_acts : ActsOnRecord State.agePoint Point.aged Point.stales where
  pt s n m := by
    rw [State.agePoint_eq]
    split
    · rw [State.mark_pt, State.modPt_pt]
    · exact State.modPt_pt ..
  isChanged s n q m := by
    rw [State.agePoint_eq]
    split
    · by_cases e : n = m
      · subst e; simp [State.mark_isChanged, *]
      · simp [State.mark_isChanged, e]
    · simp [*]
  cursor s n q := by
    rw [State.agePoint_eq]
    split
    · exact State.mark_cursor ..
    · rfl

theorem State.ageEntries_eq (s : State) (es : List Entry) :
    s.ageEntries es = (es.map Entry.point).foldl State.agePoint s := by
  rw [List.foldl_map]; rfl

/-- Aging moves records and change sets alone. -/
theorem State.agePoint_frame (s : State) (n : PointNo) :
    s.agePoint n = { s with points := (s.agePoint n).points, changed := (s.agePoint n).changed } := by
  rw [State.agePoint_eq]
  split <;> rfl

theorem State.ageEntries_frame (s : State) (es : List Entry) :
    s.ageEntries es =
      { s with points := (s.ageEntries es).points, changed := (s.ageEntries es).changed } := by
  rw [State.ageEntries_eq]
  generalize es.map Entry.point = l
  induction l generalizing s with
  | nil => rfl
  | cons a l ih =>
    rw [List.foldl_cons]
    refine (ih (s.agePoint a)).trans ?_
    rw [State.agePoint_frame s a]

/-! ### The scan engine at a pass-end and at a run end (R50, R69, R79) -/

theorem Scan.promoteList_of_some {c : Scan} {ns : List PointNo} (h : c.staged = some ns) :
    c.promoteList = { c with active := ns.map fun n => ⟨n, .none⟩, staged := none } := by
  simp [Scan.promoteList, h, freshEntries]

theorem Scan.promoteList_of_none {c : Scan} (h : c.staged = none) :
    c.promoteList = { c with staged := none } := by
  obtain ⟨⟩ := c
  simp_all [Scan.promoteList]

/-- The end of a pass of which no listed point occurs twice, block by block (R50, R68, R69, R82,
R112). -/
theorem State.passEnd_endsPassTo {s : State} (hd : (s.scan.active.map Entry.point).Nodup) (halted : Bool) :
    s.EndsPassTo (s.passEnd halted) halted := by
  refine ⟨s.promoteProfiles, s.promoteProfiles_promotesTo, ?_, fun n => ?_, fun q => ⟨?_, fun n => ?_⟩,
    fun es hes => ?_⟩
  · have haged := State.ageEntries_frame s.promoteProfiles s.scan.active
    simp only [State.passEnd, State.modScan]
    rw [haged]
  · simp only [State.passEnd, State.modScan_pt, State.ageEntries_eq]
    exact State.agePoint_acts.foldl_pt hd ..
  · simp only [State.passEnd, State.modScan_changed, State.ageEntries_eq]
    exact State.agePoint_acts.foldl_cursor ..
  · simp only [State.passEnd, State.modScan_isChanged, State.ageEntries_eq]
    exact State.agePoint_acts.foldl_isChanged hd ..
  · have hlist : s.scan.promoteList = { s.scan with active := es, staged := none } := by
      cases hs : s.scan.staged with
      | none => rw [Scan.promoteList_of_none hs, hes, hs]
      | some ns => rw [Scan.promoteList_of_some hs, hes, hs]
    rw [State.passEnd_scan, hlist]
    refine ⟨fun hend => ?_, fun hh hr hm => ?_⟩
    · simp only [Scan.afterPass, hend, if_true, Scan.goIdle]
    · simp [Scan.afterPass, hh, hr, hm, Scan.startPass, setOutcomes]

theorem Scan.passOver_iff (c : Scan) : c.passOver = true ↔ c.scanner = .pass ∧ allClosed c.active := by
  simp [Scan.passOver, allClosed]

theorem Scan.runOver_iff (c : Scan) : c.runOver = true ↔ c.prioActive = true ∧ allClosed c.prio := by
  simp [Scan.runOver, allClosed]

/-- A pass-end that is due is the engine's next move. -/
theorem State.engineMove_of_passOver {s : State} (h : s.scan.passOver = true) :
    s.engineMove = some (s.passEnd false) := by
  simp [State.engineMove, h]

/-- A run end that is due is the engine's next move where no pass-end is due (log entry 14). -/
theorem State.engineMove_of_runOver {s : State} (hp : s.scan.passOver = false) (hr : s.scan.runOver = true) :
    s.engineMove = some s.runEnd := by
  simp [State.engineMove, hp, hr]

/-- The end of a run: prio-done, then the held rerun or the end of priority dispatch (R79). -/
theorem State.runEnd_eq {s : State} (h : s.scan.prioActive = true) :
    s.runEnd = { s with
      attn := { s.attn with prioDone := true }
      scan := if s.scan.rerun then
        { s.scan with rerun := false, prio := s.scan.prio.map fun e => { e with outcome := .pending } }
        else { s.scan with prioActive := false } } := by
  cases hr : s.scan.rerun <;>
    simp [State.runEnd, State.modScan, State.modAttn, Scan.startRun, setOutcomes, h, hr]

/-- Settles O33: a pass-end that is due is the next move and, by the effects of promotion and aging on each
record, ends the pass block by block; a run end is the next move where no pass-end is due. -/
theorem passAndRunEnds : Obligations.PassAndRunEnds := by
  intro s
  refine ⟨fun hpass hclosed hd => ?_, fun hno hrun hclosed => ?_⟩
  · have hover := s.scan.passOver_iff.2 ⟨hpass, hclosed⟩
    exact ⟨_, State.engineMove_of_passOver hover, State.passEnd_endsPassTo hd false⟩
  · have hpass : s.scan.passOver = false := by
      rw [← Bool.not_eq_true, Scan.passOver_iff]; exact hno
    rw [State.engineMove_of_runOver hpass (s.scan.runOver_iff.2 ⟨hrun, hclosed⟩), State.runEnd_eq hrun]

/-! ### A taken command with its answer -/

/-- A taken command that the mode admits and whose length fits is answered with what its own rule gives. -/
theorem exec_row_answered {c : Cmd} {p : CmdPort} {ps : List Byte} {s t : State} {st : Status}
    {data : List Byte} (ht : s.Takes c p ps) (hm : refusalOfMode (admissionOf c) s.run.mode = none)
    (hl : lengthFits c ps.length = true) (hr : ruleOf c p ps s = (⟨st, data⟩, t)) :
    exec (rowOf c p ps) s = .next (t.answered p st data) := by
  rw [exec_row, runCommand_own ht hm hl, hr, respond_eq]

/-! ### EDIT (R36, R38 to R40) -/

/-- EDIT's own rule where no check refuses it (R36). -/
theorem editRule_accepted {p : CmdPort} {ps : List Byte} {s : State} {n : PointNo} {g : Group}
    (hn : s.resolve (selectorAt ps 0) = .ok n) (hh : s.blockingHold p n = none)
    (hrev : wordAt16 ps 5 = (s.pt n).revision) (hg : groupOf (byteAt ps 7) (ps.drop 8) = some g)
    (ho : g.inOrder = true) : editRule p ps s = s.acceptEdit n g := by
  rw [editRule, withPoint_ok hn, unlessHeld_none hh]
  simp [hrev, hg, ho]

theorem State.editIsStaged_eq_true {s : State} {n : PointNo} :
    s.editIsStaged n = true ↔ (s.pt n).state ≠ .draft ∧ s.scan.scanner ≠ .idle := by
  simp [State.editIsStaged]

/-- An accepted EDIT that is staged writes one record (R40). -/
theorem State.acceptEdit_staged {s : State} {n : PointNo} {g : Group} (h : s.editIsStaged n = true) :
    s.acceptEdit n g =
      (⟨.ok, bytes16 ((s.pt n).revision + 1#16) ++ [0x01#8]⟩,
        s.setPt n { s.pt n with
          staged := some (((s.pt n).staged.getD (s.pt n).active).write g)
          revision := (s.pt n).revision + 1#16 }) := by
  simp only [State.acceptEdit, h, if_true, accept, State.writeStaged, State.bumpRevision, State.modPt_modPt]
  rfl

/-- An accepted EDIT that is not staged writes the active profile, and the engine looks at its cursors
(R39, R65). -/
theorem State.acceptEdit_active {s : State} {n : PointNo} {g : Group} (h : s.editIsStaged n = false) :
    s.acceptEdit n g =
      (⟨.ok, bytes16 ((s.pt n).revision + 1#16) ++ [0x00#8]⟩,
        ((s.writeActive n ((s.pt n).active.write g)).bumpRevision n).settle) := by
  simp [State.acceptEdit, h, accept, choiceCode, flagByte]

/-- Settles O15: the staged branch of an accepted EDIT writes one record, the other is a write of the active
profile, whose effects on records, sample ports and change sets are those of `writeActive`. -/
theorem editWritesOneProfile : Obligations.EditWritesOneProfile := by
  intro p ps s n g ht hw hlen hn hh hrev hg ho x pr rerouted
  have hlen : lengthFits .edit ps.length = true := decide_eq_true hlen
  have hrule : ruleOf .edit p ps s = s.acceptEdit n g := editRule_accepted hn hh hrev hg ho
  refine ⟨fun hact => ?_, fun hdraft hidle => ?_⟩
  · have hstaged : s.editIsStaged n = false := by
      rw [← Bool.not_eq_true, State.editIsStaged_eq_true]
      tauto
    have hacts := State.writeActive_acts pr
    refine ⟨(s.writeActive n pr).bumpRevision n,
      exec_row_answered ht (refusalOfMode_works hw) hlen (hrule.trans (State.acceptEdit_active hstaged)),
      (State.recordsMove_writeActive s n pr).trans (State.recordsMove_modPt ..), ?_, fun m hm => ?_,
      fun i => ⟨fun hi => ?_, fun hi => ?_⟩, fun q => ⟨hacts.cursor s n q, fun m => ?_⟩⟩
    · rw [State.bumpRevision, State.modPt_pt_self, hacts.pt, if_pos rfl]
      rfl
    · rw [State.bumpRevision, State.modPt_pt_ne _ _ hm.symm, hacts.pt, if_neg hm.symm]
    · exact (State.writeActive_port ..).trans (if_pos hi)
    · exact (State.writeActive_port ..).trans (if_neg hi)
    · refine (hacts.isChanged s n q m).trans (or_congr_right ?_)
      rw [Bool.and_eq_true, bne_iff_ne, bne_iff_ne, eq_comm]
  · exact exec_row_answered ht (refusalOfMode_works hw) hlen
      (hrule.trans (State.acceptEdit_staged (State.editIsStaged_eq_true.2 ⟨hdraft, hidle⟩)))

/-! ### Routine-list edits (R48, R58, R59) -/

/-- The scan engine with its routine list edited: the active list becomes `es` in IDLE, the staged list
`ns` in PASS and GAP (R48). -/
def Scan.withRoutineList (c : Scan) (es : List Entry) (ns : List PointNo) : Scan :=
  if c.scanner = .idle then { c with active := es } else { c with staged := some ns }

theorem Scan.editTarget_eq (c : Scan) :
    c.editTarget = if c.scanner = .idle then c.active.map Entry.point
      else c.staged.getD (c.active.map Entry.point) := by
  by_cases h : c.scanner = .idle <;> simp [Scan.editTarget, Scan.editsStaged, h]

theorem Scan.insertPoint_eq (c : Scan) (k : Nat) (n : PointNo) :
    c.insertPoint k n = c.withRoutineList (c.active.take k ++ ⟨n, .none⟩ :: c.active.drop k)
      (c.editTarget.take k ++ n :: c.editTarget.drop k) := by
  by_cases h : c.scanner = .idle <;>
    simp [Scan.insertPoint, Scan.withRoutineList, Scan.editsStaged, insertAt, h]

theorem Scan.removePoint_eq (c : Scan) (n : PointNo) :
    c.removePoint n = c.withRoutineList (c.active.filter fun e => e.point ≠ n)
      (c.editTarget.filter fun m => m ≠ n) := by
  by_cases h : c.scanner = .idle <;>
    simp [Scan.removePoint, Scan.withRoutineList, Scan.editsStaged, h]

theorem Scan.clearList_eq : Scan.clearList = fun c => c.withRoutineList [] [] := by
  funext c
  by_cases h : c.scanner = .idle <;>
    simp [Scan.clearList, Scan.withRoutineList, Scan.editsStaged, h]

theorem State.modScan_withRoutineList (s : State) (es : List Entry) (ns : List PointNo) :
    (s.modScan fun c => c.withRoutineList es ns) =
      if s.scan.scanner = .idle then { s with scan := { s.scan with active := es } }
      else { s with scan := { s.scan with staged := some ns } } := by
  by_cases h : s.scan.scanner = .idle <;> simp [State.modScan, Scan.withRoutineList, h]

/-- The list that edits are checked against after a removal is the one before without the point (R59). -/
theorem Scan.removePoint_editTarget (c : Scan) (n : PointNo) :
    (c.removePoint n).editTarget = c.editTarget.filter fun m => m ≠ n := by
  rw [Scan.removePoint_eq]
  by_cases h : c.scanner = .idle
  · simp [Scan.withRoutineList, Scan.editTarget_eq, h, List.filter_map, Function.comp_def]
  · simp [Scan.withRoutineList, Scan.editTarget_eq, h]

/-- The removal of a point that a list holds exactly once shortens it by one. -/
theorem length_filter_ne_of_nodup {l : List PointNo} {n : PointNo} (hd : l.Nodup) (hn : n ∈ l) :
    (l.filter fun m => m ≠ n).length = l.length - 1 := by
  rw [← List.length_erase_of_mem hn, hd.erase_eq_filter]
  simp [bne, BEq.beq]

theorem listData_eq (c : Scan) (k : Nat) :
    listData c.editsStaged k = [if c.scanner = .idle then 0x00#8 else 0x01#8] ++ num16 k := by
  by_cases h : c.scanner = .idle <;> simp [listData, choiceCode, flagByte, Scan.editsStaged, h]

section

variable {ps : List Byte} {s : State} {n : PointNo}

/-! RLIST_INSERT's own rule, outcome by outcome, in the order of its checks (R58). -/

theorem rlistInsertRule_badParam (hn : s.resolve (selectorAt ps 2) = .ok n)
    (hk : s.scan.editTarget.length < numAt16 ps 0) : rlistInsertRule ps s = refuse .badParam s := by
  rw [rlistInsertRule, withPoint_ok hn]
  exact if_pos hk

theorem rlistInsertRule_listFull (hn : s.resolve (selectorAt ps 2) = .ok n)
    (hk : numAt16 ps 0 ≤ s.scan.editTarget.length)
    (hfull : Config.routineCapacity ≤ s.scan.editTarget.length) :
    rlistInsertRule ps s = refuse .listFull s := by
  rw [rlistInsertRule, withPoint_ok hn]
  exact (if_neg hk.not_gt).trans (if_pos hfull)

theorem rlistInsertRule_duplicate (hn : s.resolve (selectorAt ps 2) = .ok n)
    (hk : numAt16 ps 0 ≤ s.scan.editTarget.length)
    (hfree : s.scan.editTarget.length < Config.routineCapacity) (hmem : n ∈ s.scan.editTarget) :
    rlistInsertRule ps s = refuse .duplicate s := by
  rw [rlistInsertRule, withPoint_ok hn]
  exact (if_neg hk.not_gt).trans ((if_neg hfree.not_ge).trans (if_pos hmem))

theorem rlistInsertRule_accepted (hn : s.resolve (selectorAt ps 2) = .ok n)
    (hk : numAt16 ps 0 ≤ s.scan.editTarget.length)
    (hfree : s.scan.editTarget.length < Config.routineCapacity) (hmem : n ∉ s.scan.editTarget) :
    rlistInsertRule ps s = accept (listData s.scan.editsStaged (s.scan.editTarget.length + 1))
      (s.modScan fun c => c.insertPoint (numAt16 ps 0) n) := by
  rw [rlistInsertRule, withPoint_ok hn]
  exact (if_neg hk.not_gt).trans ((if_neg hfree.not_ge).trans (if_neg hmem))

/-! RLIST_REMOVE's own rule, outcome by outcome (R59). -/

theorem rlistRemoveRule_notListed (hn : s.resolve (selectorAt ps 0) = .ok n)
    (hmem : n ∉ s.scan.editTarget) : rlistRemoveRule ps s = refuse .notListed s := by
  rw [rlistRemoveRule, withPoint_ok hn]
  exact if_neg hmem

theorem rlistRemoveRule_accepted (hn : s.resolve (selectorAt ps 0) = .ok n)
    (hmem : n ∈ s.scan.editTarget) (hd : s.scan.editTarget.Nodup) :
    rlistRemoveRule ps s = accept (listData s.scan.editsStaged (s.scan.editTarget.length - 1))
      (s.modScan fun c => c.removePoint n) := by
  rw [rlistRemoveRule, withPoint_ok hn, ← length_filter_ne_of_nodup hd hmem, ← Scan.removePoint_editTarget]
  exact if_pos hmem

end

/-- Settles O21: each edit answers with the first check that fails against the list concerned, or writes that
list alone. -/
theorem routineListEdits : Obligations.RoutineListEdits := by
  intro p ps s n hw k old base code edited
  have hm := refusalOfMode_works hw
  have hbase : s.scan.editTarget = base := s.scan.editTarget_eq
  have hdata (len : Nat) : listData s.scan.editsStaged len = [code] ++ num16 len := listData_eq ..
  have hedited (es : List Entry) (ns : List PointNo) :
      (s.modScan fun c => c.withRoutineList es ns) = edited es ns := s.modScan_withRoutineList es ns
  rw [← hbase]
  refine ⟨fun ht hl hn => ?_, fun ht hl hn => ?_, fun ht hl => ?_⟩
  · have answers {st data t} := exec_row_answered (st := st) (data := data) (t := t) ht hm (decide_eq_true hl)
    refine ⟨fun hk => answers (rlistInsertRule_badParam hn hk),
      fun hk hfull => answers (rlistInsertRule_listFull hn hk hfull),
      fun hk hfree hmem => answers (rlistInsertRule_duplicate hn hk hfree hmem),
      fun hk hfree hmem => answers ((rlistInsertRule_accepted hn hk hfree hmem).trans ?_)⟩
    simp only [accept, hdata, Scan.insertPoint_eq, ← hedited]
    rfl
  · have answers {st data t} := exec_row_answered (st := st) (data := data) (t := t) ht hm (decide_eq_true hl)
    refine ⟨fun hmem => answers (rlistRemoveRule_notListed hn hmem),
      fun hmem hd => answers ((rlistRemoveRule_accepted hn hmem hd).trans ?_)⟩
    simp only [accept, hdata, Scan.removePoint_eq, ← hedited]
    rfl
  · refine exec_row_answered ht hm (decide_eq_true hl) (?_ : accept _ _ = _)
    simp only [accept, hdata, Scan.clearList_eq, ← hedited]

end Sys2Proof.Machine

/-! SUPPORT. The scan engine: what keeps it settled from one state to the next, which rules and events leave it so,
its moves one by one, its timers and requests, the endings of a conversion, withdrawals and halts, and quiet entry. -/

namespace Sys2Proof.Machine

/-! ### Settled states (R65, R68, R79) -/

/-- The engine has no move exactly where no end is due and the entry at the cursor in force, if there is one,
waits. -/
theorem State.settled_iff (s : State) :
    s.Settled ↔ s.scan.passOver = false ∧ s.scan.runOver = false
      ∧ ∀ o n, s.scan.inForce = some o → cursorPoint (s.scan.entries o) = some n → s.examine n = .waits := by
  have cursor (o : Origin) : s.examineCursor o = none
      ↔ ∀ n, cursorPoint (s.scan.entries o) = some n → s.examine n = .waits := by
    unfold State.examineCursor
    cases cursorPoint (s.scan.entries o) with
    | none => simp
    | some n => cases h : s.examine n <;> simp [h]
  unfold State.Settled State.engineMove
  cases s.scan.passOver with
  | true => simp
  | false =>
    cases s.scan.runOver with
    | true => simp
    | false =>
      cases s.scan.inForce with
      | none => simp
      | some o =>
        simp only [Bool.false_eq_true, if_false, Option.isNone_iff_eq_none, cursor, true_and]
        exact ⟨fun h _ n ho => by cases ho; exact h n, fun h n => h o n rfl⟩

theorem State.settled_settle (s : State) : s.settle.Settled := by
  simp [State.Settled, s.settle_settled]

/-- No pass and no run is in progress. -/
def Scan.Rests (c : Scan) : Prop := c.scanner ≠ .pass ∧ c.prioActive = false

/-- Where no pass and no run is in progress, the engine has nothing to do. -/
theorem State.settled_of_rests {s : State} (h : s.scan.Rests) : s.Settled := by
  obtain ⟨hpass, hrun⟩ := h
  refine s.settled_iff.2 ⟨?_, ?_, fun o n ho => ?_⟩
  · simp [Scan.passOver, hpass]
  · simp [Scan.runOver, hrun]
  · simp [Scan.inForce, hpass, hrun] at ho

/-- Outside ACTIVE no pass and no run is in progress (R191, R192). -/
theorem State.ModeLaw.rests {s : State} (h : s.ModeLaw) (hm : s.run.mode ≠ .active) : s.scan.Rests := by
  obtain ⟨hidle, hrun⟩ := h.1 hm
  exact ⟨by simp [hidle], hrun⟩

/-- What a step that starts no examination leaves to the engine: the ends due, the list in force with its
entries, and every examination that waits. -/
structure State.KeepsWaiting (s t : State) : Prop where
  passOver : t.scan.passOver = s.scan.passOver
  runOver : t.scan.runOver = s.scan.runOver
  inForce : t.scan.inForce = s.scan.inForce
  entries : ∀ o, s.scan.inForce = some o → t.scan.entries o = s.scan.entries o
  waits : ∀ n, s.examine n = .waits → t.examine n = .waits

theorem State.settled_of_keepsWaiting {s t : State} (hs : s.Settled) (h : s.KeepsWaiting t) : t.Settled := by
  obtain ⟨hpass, hrun, hwait⟩ := s.settled_iff.1 hs
  refine t.settled_iff.2 ⟨h.passOver.trans hpass, h.runOver.trans hrun, fun o n ho hn => ?_⟩
  rw [h.inForce] at ho
  rw [h.entries o ho] at hn
  exact h.waits n (hwait o n ho hn)

theorem State.KeepsWaiting.trans {s t u : State} (h : s.KeepsWaiting t) (k : t.KeepsWaiting u) :
    s.KeepsWaiting u where
  passOver := k.passOver.trans h.passOver
  runOver := k.runOver.trans h.runOver
  inForce := k.inForce.trans h.inForce
  entries o ho := (k.entries o (h.inForce.trans ho)).trans (h.entries o ho)
  waits n hn := k.waits n (h.waits n hn)

/-- The scan engine aside, only examinations count. -/
theorem State.KeepsWaiting.of_waits {s t : State} (hc : t.scan = s.scan)
    (hw : ∀ n, s.examine n = .waits → t.examine n = .waits) : s.KeepsWaiting t :=
  ⟨by rw [hc], by rw [hc], by rw [hc], fun _ _ => by rw [hc], hw⟩

/-- A step that leaves scan engine, records and sample ports keeps the engine waiting. -/
theorem State.KeepsWaiting.of_eq {s t : State} (hc : t.scan = s.scan) (hpt : t.pt = s.pt)
    (hport : t.port = s.port) : s.KeepsWaiting t :=
  .of_waits hc fun n hn => by simpa [State.examine, hpt, hport] using hn

/-- A step that leaves records and sample ports leaves every examination. -/
theorem State.KeepsWaiting.of_scan {s t : State} (hpt : t.pt = s.pt) (hport : t.port = s.port)
    (hpass : t.scan.passOver = s.scan.passOver) (hrun : t.scan.runOver = s.scan.runOver)
    (hforce : t.scan.inForce = s.scan.inForce)
    (hentries : ∀ o, s.scan.inForce = some o → t.scan.entries o = s.scan.entries o) : s.KeepsWaiting t :=
  ⟨hpass, hrun, hforce, hentries, fun n hn => by simpa [State.examine, hpt, hport] using hn⟩

/-- An examination depends on three items of a record and on the phases of the ports. -/
theorem State.examine_congr {s t : State} {n : PointNo} (hstate : (t.pt n).state = (s.pt n).state)
    (hactive : (t.pt n).active = (s.pt n).active) (hmark : (t.pt n).inFlight = (s.pt n).inFlight)
    (hphase : ∀ i, (t.port i).phase = (s.port i).phase) : t.examine n = s.examine n := by
  simp [State.examine, hstate, hactive, hmark, hphase]

/-- A change of one record that spares what an examination reads. -/
theorem State.KeepsWaiting.modPt {s : State} {n : PointNo} {f : Point → Point}
    (hstate : (f (s.pt n)).state = (s.pt n).state) (hactive : (f (s.pt n)).active = (s.pt n).active)
    (hmark : (f (s.pt n)).inFlight = (s.pt n).inFlight) : s.KeepsWaiting (s.modPt n f) := by
  refine .of_waits rfl fun m hm => ?_
  rw [← hm]
  by_cases e : n = m
  · subst e
    exact State.examine_congr (by simpa using hstate) (by simpa using hactive) (by simpa using hmark) fun _ => rfl
  · have hpt := s.modPt_pt_ne f e
    exact State.examine_congr (by rw [hpt]) (by rw [hpt]) (by rw [hpt]) fun _ => rfl

/-- A change of a record that is not LIVE: its examination does not wait (R65). -/
theorem State.KeepsWaiting.setPt_of_not_live {s : State} {n : PointNo} (h : (s.pt n).state ≠ .live) (x : Point) :
    s.KeepsWaiting (s.setPt n x) := by
  refine .of_waits rfl fun m hm => ?_
  have e : n ≠ m := by
    rintro rfl
    simp [State.examine, h] at hm
  have hpt := s.setPt_pt_ne x e
  rw [← hm]
  exact State.examine_congr (by rw [hpt]) (by rw [hpt]) (by rw [hpt]) fun _ => rfl

/-- A change of sample ports that spares their phases. -/
theorem State.KeepsWaiting.modPort {s : State} {i : PortNo} {f : SamplePort → SamplePort}
    (hphase : (f (s.port i)).phase = (s.port i).phase) : s.KeepsWaiting (s.modPort i f) := by
  refine .of_waits rfl fun n hn => ?_
  rw [← hn]
  refine State.examine_congr rfl rfl rfl fun j => ?_
  by_cases e : i = j
  · subst e; simpa using hphase
  · rw [s.modPort_port_ne f e]

/-- A change of the scan engine that spares the two lists while they are walked. -/
theorem State.KeepsWaiting.modScan {s : State} {f : Scan → Scan} (hscanner : (f s.scan).scanner = s.scan.scanner)
    (hactive : s.scan.scanner ≠ .idle → (f s.scan).active = s.scan.active)
    (hrun : (f s.scan).prioActive = s.scan.prioActive)
    (hprio : s.scan.prioActive = true → (f s.scan).prio = s.scan.prio) : s.KeepsWaiting (s.modScan f) := by
  have hpass (h : s.scan.scanner = .pass) : (f s.scan).active = s.scan.active := hactive (by simp [h])
  refine .of_scan rfl rfl ?_ ?_ ?_ fun o ho => ?_
  · rw [Bool.eq_iff_iff, Scan.passOver_iff, Scan.passOver_iff, State.modScan_scan, hscanner]
    exact and_congr_right fun h => by rw [hpass h]
  · rw [Bool.eq_iff_iff, Scan.runOver_iff, Scan.runOver_iff, State.modScan_scan, hrun]
    exact and_congr_right fun h => by rw [hprio h]
  · simp [Scan.inForce, hscanner, hrun]
  · unfold Scan.inForce at ho
    split at ho
    · cases ho; exact hprio ‹_›
    · split at ho <;> cases ho
      exact hpass ‹_›

/-! ### The condition list (R127 to R133, R135 to R137) -/

theorem State.keepsWaiting_refill (s : State) : s.KeepsWaiting s.refill := by
  unfold State.refill
  split
  · rename_i m _
    have hentry : s.KeepsWaiting (s.createEntry m (s.pt m).level (s.pt m).peak) := .of_eq rfl rfl rfl
    exact hentry.trans (.modPt rfl rfl rfl)
  · exact .of_eq rfl rfl rfl

theorem State.keepsWaiting_removeEntry (s : State) (n : PointNo) : s.KeepsWaiting (s.removeEntry n) := by
  have hdrop : s.KeepsWaiting (s.dropEntry n) := .of_eq rfl rfl rfl
  exact (hdrop.trans (.modPt rfl rfl rfl)).trans (State.keepsWaiting_refill _)

theorem State.keepsWaiting_ackEntry (s : State) (e : CondEntry) : s.KeepsWaiting (s.ackEntry e) := by
  have hflag : s.KeepsWaiting (s.modEntry e.point fun x => { x with acknowledged := true }) :=
    .of_eq rfl rfl rfl
  unfold State.ackEntry
  simp only
  split
  · exact hflag.trans (State.keepsWaiting_removeEntry ..)
  · exact hflag

theorem State.keepsWaiting_ackEntries (s : State) (es : List CondEntry) :
    s.KeepsWaiting (es.foldl State.ackEntry s) := by
  induction es generalizing s with
  | nil => exact .of_eq rfl rfl rfl
  | cons e es ih => exact (State.keepsWaiting_ackEntry s e).trans (ih _)

/-! ### The time base (R70, log entry 3) -/

/-- A tick runs down the timers and leaves every phase what it is, so no examination changes. -/
theorem State.examine_elapse (s : State) (n : PointNo) : s.elapse.examine n = s.examine n := by
  have hport (i : PortNo) : s.elapse.port i = (s.port i).elapse := Table.get_map ..
  have hpt : s.elapse.pt n = s.pt n := rfl
  unfold State.examine
  rw [hport, hpt]
  generalize s.port (s.pt n).active.route.port = x
  obtain ⟨phase⟩ := x
  cases phase <;> rfl

theorem State.keepsWaiting_idle (s : State) : s.KeepsWaiting s.idle := by
  unfold State.idle
  split
  · exact .of_eq rfl rfl rfl
  · exact ⟨rfl, rfl, rfl, fun o _ => by cases o <;> rfl, fun n hn => (s.examine_elapse n).trans hn⟩

/-! ### Halts (R74) -/

theorem Scan.setEntries_control (c : Scan) (o : Origin) (es : List Entry) :
    (c.setEntries o es).scanner = c.scanner ∧ (c.setEntries o es).prioActive = c.prioActive
      ∧ (c.setEntries o es).periodTimer = c.periodTimer := by
  cases o <;> exact ⟨rfl, rfl, rfl⟩

@[simp] theorem State.requestCancel_scan (s : State) (n : PointNo) : (s.requestCancel n).scan = s.scan := by
  unfold State.requestCancel; split <;> rfl

theorem State.foldl_requestCancel_scan (l : List PointNo) (s : State) :
    (l.foldl State.requestCancel s).scan = s.scan := by
  induction l generalizing s with
  | nil => rfl
  | cons n l ih => rw [List.foldl_cons, ih, State.requestCancel_scan]

/-- A withdrawal writes one list of the scan engine. -/
theorem State.withdraw_scan (s : State) (o : Origin) :
    (s.withdraw o).scan = s.scan.setEntries o (cancelOpen (s.scan.entries o)) := by
  simp [State.withdraw, State.foldl_requestCancel_scan]

/-- A halted pass-end leaves the scanner IDLE and the period timer stopped (R69). -/
theorem State.passEnd_halted (s : State) :
    (s.passEnd true).scan.scanner = .idle ∧ (s.passEnd true).scan.periodTimer = none := by
  rw [State.passEnd_scan]
  simp [Scan.afterPass, Scan.goIdle]

/-- After the abort of a run no run is in progress, and the scanner and its timer are as they were (R74). -/
theorem State.abortRun_scan (s : State) :
    s.abortRun.scan.prioActive = false ∧ s.abortRun.scan.scanner = s.scan.scanner
      ∧ s.abortRun.scan.periodTimer = s.scan.periodTimer := by
  unfold State.abortRun
  split
  · obtain ⟨hscanner, -, htimer⟩ :=
      s.scan.setEntries_control .priority (cancelOpen (s.scan.entries .priority))
    simp [State.withdraw_scan, hscanner, htimer]
  · simp_all

/-- The routine side of a halt (R74). -/
def State.haltRoutine (s : State) : State :=
  match s.scan.scanner with
  | .pass => (s.withdraw .routine).passEnd true
  | .gap => s.promote.modScan Scan.goIdle
  | .idle => s.modScan Scan.goIdle

/-- A halt acts on the routine side and then on the priority side (R74). -/
theorem State.halt_eq (s : State) : s.halt = s.haltRoutine.abortRun := rfl

theorem State.haltRoutine_scan (s : State) :
    s.haltRoutine.scan.scanner = .idle ∧ s.haltRoutine.scan.periodTimer = none := by
  unfold State.haltRoutine
  split
  · exact State.passEnd_halted _
  · exact ⟨rfl, rfl⟩
  · exact ⟨rfl, rfl⟩

/-- After a halt the scanner is IDLE, no run is in progress and the period timer has stopped (R74). -/
theorem State.halt_scan (s : State) :
    s.halt.scan.scanner = .idle ∧ s.halt.scan.prioActive = false ∧ s.halt.scan.periodTimer = none := by
  obtain ⟨hrun, hscanner, htimer⟩ := s.haltRoutine.abortRun_scan
  obtain ⟨hidle, hstopped⟩ := s.haltRoutine_scan
  exact ⟨hscanner.trans hidle, hrun, htimer.trans hstopped⟩

theorem State.halt_rests (s : State) : s.halt.scan.Rests := by
  obtain ⟨hidle, hrun, -⟩ := s.halt_scan
  exact ⟨by simp [hidle], hrun⟩

/-! ### Rules of commands (R65)

Each rule leaves the engine settled: it changes nothing that an examination reads, or starts the engine's part of
the event, or leaves no pass and no run in progress. -/

theorem accept_settled {data : List Byte} {s : State} (hs : s.Settled) : (accept data s).2.Settled := hs

theorem withPoint_settled {ps : List Byte} {i : Nat} {rule : PointNo → State → Answer × State} {s : State}
    (hs : s.Settled) (h : ∀ n, (rule n s).2.Settled) : (withPoint ps i rule s).2.Settled := by
  unfold withPoint
  split
  · exact hs
  · exact h _

theorem unlessHeld_settled {p : CmdPort} {n : PointNo} {rule : State → Answer × State} {s : State}
    (hs : s.Settled) (h : (rule s).2.Settled) : (unlessHeld p n rule s).2.Settled := by
  unfold unlessHeld
  split
  · exact hs
  · exact h

section

variable {p : CmdPort} {ps : List Byte} {s : State}

theorem runCommand_settled {c : Cmd} {own : State → Answer × State} {t : State} (hs : s.Settled)
    (h : (own s).2.Settled) (ht : runCommand c p ps own s = .next t) : t.Settled := by
  have hrespond (r : Answer × State) (hr : r.2.Settled) : (respond p r).Settled :=
    State.settled_of_keepsWaiting hr (.of_eq rfl rfl rfl)
  unfold runCommand at ht
  split at ht <;> cases ht
  · refine hrespond _ ?_
    unfold checked
    split
    · exact hs
    · split
      · exact h
      · exact hs
  · exact hs

/-! Reads. -/

theorem findRule_state : (findRule ps s).2 = s := by
  unfold findRule; split <;> rfl

theorem readProfileRule_settled (hs : s.Settled) : (readProfileRule ps s).2.Settled :=
  withPoint_settled hs fun n => by split <;> exact hs

theorem readValueRule_settled (hs : s.Settled) : (readValueRule ps s).2.Settled :=
  withPoint_settled hs fun _ => hs

theorem rlistReadRule_state : (rlistReadRule ps s).2 = s := by
  unfold rlistReadRule
  simp only
  split
  · rfl
  · split
    · rfl
    · split <;> rfl

theorem plistReadRule_state : (plistReadRule ps s).2 = s := by
  unfold plistReadRule
  simp only
  split <;> rfl

theorem condReadRule_state : (condReadRule ps s).2 = s := by
  unfold condReadRule
  simp only
  split <;> rfl

theorem readChangedRule_settled (hs : s.Settled) : (readChangedRule p ps s).2.Settled := by
  unfold readChangedRule
  simp only
  split
  · exact hs
  · exact State.settled_of_keepsWaiting hs (.of_eq rfl rfl rfl)

theorem portStatusRule_settled (hs : s.Settled) : (portStatusRule ps s).2.Settled := by
  unfold portStatusRule
  split
  · refine accept_settled ?_
    split
    · exact State.settled_of_keepsWaiting hs (.modPort rfl)
    · exact hs
  · exact hs

/-! The table and access groups. -/

theorem defineRule_settled (hs : s.Settled) : (defineRule ps s).2.Settled := by
  unfold defineRule
  simp only
  split
  · exact hs
  split
  · exact hs
  split
  · exact hs
  · rename_i n hn
    have hfree : (s.pt n).state = .free := beq_iff_eq.1 ((Table.first_eq_some ..).1 hn).1
    have hrecord := State.KeepsWaiting.setPt_of_not_live (s := s) (n := n) (by simp [hfree])
      (definedRecord (s.pt n) (wordAt32 ps 0))
    have hlink (u : State) (t : Tag) : u.KeepsWaiting (u.link n t) :=
      (State.KeepsWaiting.modPt (f := fun x => { x with next := u.head (bucketOf t) }) rfl rfl rfl).trans
        (.of_eq rfl rfl rfl)
    exact State.settled_of_keepsWaiting hs (hrecord.trans (hlink _ _))

theorem State.acceptEdit_settled (n : PointNo) (g : Group) (hs : s.Settled) : (s.acceptEdit n g).2.Settled := by
  unfold State.acceptEdit
  simp only
  split
  · have hstaged : s.KeepsWaiting (s.writeStaged n g) := .modPt rfl rfl rfl
    exact accept_settled (State.settled_of_keepsWaiting hs (hstaged.trans (.modPt rfl rfl rfl)))
  · exact State.settled_settle _

theorem editRule_settled (hs : s.Settled) : (editRule p ps s).2.Settled :=
  withPoint_settled hs fun n => unlessHeld_settled hs <| by
    split
    · exact hs
    split
    · exact hs
    split
    · exact State.acceptEdit_settled n _ hs
    · exact hs

theorem lifecycleRule_settled (before : PointState) (change : Point → Point) (hs : s.Settled) :
    (lifecycleRule p ps before change s).2.Settled :=
  withPoint_settled hs fun n => unlessHeld_settled hs <| by
    split
    · exact State.settled_settle _
    · exact hs

theorem retireRule_settled (hs : s.Settled) : (retireRule p ps s).2.Settled :=
  withPoint_settled hs fun _ => unlessHeld_settled hs (State.settled_settle _)

theorem holdRule_settled (hs : s.Settled) : (holdRule p ps s).2.Settled :=
  withPoint_settled hs fun n => by
    simp only
    split
    · exact hs
    refine unlessHeld_settled hs ?_
    split
    · exact State.settled_of_keepsWaiting hs (.of_eq rfl rfl rfl)
    split
    · exact hs
    · exact State.settled_of_keepsWaiting hs (.of_eq rfl rfl rfl)

theorem releaseRule_settled (hs : s.Settled) : (releaseRule p ps s).2.Settled :=
  withPoint_settled hs fun n => by
    split
    · exact State.settled_of_keepsWaiting hs (.of_eq rfl rfl rfl)
    split
    · exact State.settled_of_keepsWaiting hs (.of_eq rfl rfl rfl)
    · exact hs

/-! The list group. -/

/-- A routine-list edit writes the active list in IDLE alone (R48). -/
theorem State.settled_withRoutineList (es : List Entry) (ns : List PointNo) (hs : s.Settled) :
    (s.modScan fun c => c.withRoutineList es ns).Settled := by
  rw [State.modScan_withRoutineList]
  split
  · rename_i hidle
    have hactive : s.KeepsWaiting (s.modScan fun c => { c with active := es }) :=
      .modScan rfl (fun h => absurd hidle h) rfl fun _ => rfl
    exact State.settled_of_keepsWaiting hs hactive
  · have hstaged : s.KeepsWaiting (s.modScan fun c => { c with staged := some ns }) :=
      .modScan rfl (fun _ => rfl) rfl fun _ => rfl
    exact State.settled_of_keepsWaiting hs hstaged

theorem rlistInsertRule_settled (hs : s.Settled) : (rlistInsertRule ps s).2.Settled :=
  withPoint_settled hs fun n => by
    simp only
    split
    · exact hs
    split
    · exact hs
    split
    · exact hs
    · simp only [accept, State.modScan, Scan.insertPoint_eq]
      exact State.settled_withRoutineList _ _ hs

theorem rlistRemoveRule_settled (hs : s.Settled) : (rlistRemoveRule ps s).2.Settled :=
  withPoint_settled hs fun n => by
    split
    · simp only [accept, State.modScan, Scan.removePoint_eq]
      exact State.settled_withRoutineList _ _ hs
    · exact hs

theorem State.settled_clearList (hs : s.Settled) : (s.modScan Scan.clearList).Settled := by
  rw [Scan.clearList_eq]
  exact State.settled_withRoutineList _ _ hs

theorem plistSetRule_settled (hs : s.Settled) : (plistSetRule ps s).2.Settled := by
  unfold plistSetRule
  split
  · exact hs
  split
  · exact hs
  rename_i hrun
  split
  · exact hs
  split
  · exact accept_settled (State.settled_of_keepsWaiting hs (.modScan rfl (fun _ => rfl) rfl fun h => absurd h hrun))
  · exact hs

/-! The scan group. -/

theorem scanStartRule_settled (hs : s.Settled) : (scanStartRule ps s).2.Settled := by
  unfold scanStartRule
  split
  · exact hs
  split
  · exact State.settled_settle _
  · exact hs

theorem State.stopScan_settled (hs : s.Settled) : s.stopScan.Settled := by
  unfold State.stopScan
  split
  · exact State.settled_of_keepsWaiting hs (.modScan rfl (fun _ => rfl) rfl fun _ => rfl)
  · exact State.settled_settle _
  · exact hs

theorem State.halt_settled (s : State) : s.halt.Settled := State.settled_of_rests s.halt_rests

theorem skipPassRule_settled (hs : s.Settled) : (skipPassRule s).2.Settled := by
  unfold skipPassRule
  split
  · exact State.settled_settle _
  · exact hs

theorem State.requestRun_settled (hs : s.Settled) : s.requestRun.Settled := by
  unfold State.requestRun
  split
  · split
    · exact State.settled_of_keepsWaiting hs (.of_eq rfl rfl rfl)
    · exact State.settled_of_keepsWaiting hs (.modScan rfl (fun _ => rfl) rfl fun _ => rfl)
  · exact State.settled_settle _

theorem abortPointRule_settled (hs : s.Settled) : (abortPointRule ps s).2.Settled :=
  withPoint_settled hs fun n => by
    split
    · exact hs
    · exact State.settled_settle _

theorem scanConfigRule_settled (hs : s.Settled) : (scanConfigRule ps s).2.Settled := by
  unfold scanConfigRule
  split
  · exact hs
  split
  · exact hs
  · exact accept_settled (State.settled_of_keepsWaiting hs (.modScan rfl (fun _ => rfl) rfl fun _ => rfl))

/-! The condition and port groups. -/

theorem ackRule_settled (hs : s.Settled) : (ackRule ps s).2.Settled :=
  withPoint_settled hs fun n => by
    split
    · exact hs
    · exact State.settled_of_keepsWaiting hs (State.keepsWaiting_ackEntry s _)

theorem ackUptoRule_settled (hs : s.Settled) : (ackUptoRule ps s).2.Settled := by
  unfold ackUptoRule
  split
  · exact hs
  · exact State.settled_of_keepsWaiting hs (State.keepsWaiting_ackEntries s _)

theorem condClearRule_settled (hs : s.Settled) : (condClearRule ps s).2.Settled :=
  withPoint_settled hs fun n => by
    split
    · exact hs
    split
    · exact accept_settled (State.settled_of_keepsWaiting hs (State.keepsWaiting_removeEntry s n))
    · exact hs

theorem portConfigRule_settled (hs : s.Settled) : (portConfigRule ps s).2.Settled := by
  unfold portConfigRule
  split
  · split
    · exact hs
    split
    · exact hs
    · exact State.settled_settle _
  · exact hs

theorem portRestoreRule_settled (hs : s.Settled) : (portRestoreRule ps s).2.Settled := by
  unfold portRestoreRule
  split
  · exact hs
  split
  · exact State.settled_settle _
  · exact hs

/-! The device group. -/

theorem clearFlagsRule_settled (hs : s.Settled) : (clearFlagsRule ps s).2.Settled := by
  unfold clearFlagsRule
  split
  · exact hs
  · exact State.settled_of_keepsWaiting hs (.of_eq rfl rfl rfl)

theorem attnMaskRule_settled (hs : s.Settled) : (attnMaskRule ps s).2.Settled := by
  unfold attnMaskRule
  split
  · exact hs
  · exact State.settled_of_keepsWaiting hs (.of_eq rfl rfl rfl)

theorem enterQuietRule_settled (hs : s.Settled) : (enterQuietRule s).2.Settled := by
  unfold enterQuietRule
  split
  · exact hs
  split
  · exact hs
  · have hrests : s.enterQuiet.scan.Rests := by
      unfold State.enterQuiet
      split <;> exact s.halt_rests
    exact State.settled_of_rests hrests

theorem exitQuietRule_settled (hm : s.ModeLaw) (hs : s.Settled) : (exitQuietRule s).2.Settled := by
  unfold exitQuietRule
  split
  · rename_i hquiet
    have hrests : s.exitQuiet.scan.Rests := by
      unfold State.exitQuiet
      split <;> exact State.ModeLaw.rests (s := s) hm (by simp [hquiet])
    exact State.settled_of_rests hrests
  · exact hs

theorem State.softReset_settled (s : State) (p : CmdPort) : (s.softReset p).Settled :=
  State.settled_of_rests ⟨nofun, rfl⟩

end

/-! ### Events (R65) -/

theorem onEvent_settled {f : State → State} {s t : State} (hs : s.Settled) (h : (f s).Settled)
    (ht : onEvent f s = .next t) : t.Settled := by
  rw [onEvent_eq] at ht
  cases ht
  split
  · exact hs
  · exact h

theorem execUnknownOpcode_settled {p : CmdPort} {opcode : Byte} {ps : List Byte} {s t : State} (hs : s.Settled)
    (ht : execUnknownOpcode p opcode ps s = .next t) : t.Settled := by
  unfold execUnknownOpcode at ht
  split at ht <;> cases ht
  · exact State.settled_of_keepsWaiting hs (.of_eq rfl rfl rfl)
  · exact hs

theorem State.spiWrite_settled {s : State} (bytes : List Byte) (hs : s.Settled) : (s.spiWrite bytes).Settled := by
  unfold State.spiWrite
  split
  · exact hs
  · split <;> exact State.settled_of_keepsWaiting hs (.of_eq rfl rfl rfl)

theorem State.i2cWrite_settled {s : State} (address : BitVec 7) (bytes : List Byte) (hs : s.Settled) :
    (s.i2cWrite address bytes).Settled := by
  unfold State.i2cWrite
  simp only
  split <;> exact State.settled_of_keepsWaiting hs (.of_eq rfl rfl rfl)

theorem State.i2cRead_settled {s : State} (address : BitVec 7) (hs : s.Settled) :
    (s.i2cRead address).Settled := by
  unfold State.i2cRead
  simp only
  split <;> exact State.settled_of_keepsWaiting hs (.of_eq rfl rfl rfl)

/-- The last end of a drain comes in QUIESCING, where no pass and no run is in progress (R192). -/
theorem State.drainEnded_settled {s : State} (hs : s.Settled) (hr : s.run.mode ≠ .active → s.scan.Rests) :
    s.drainEnded.Settled := by
  unfold State.drainEnded
  split
  · rename_i h
    exact State.settled_of_rests (s := s.goQuiet) (hr (by simp [h.1]))
  · exact hs

/-- An event that settles the engine and then looks for the end of a drain, in a state of the mode table. -/
theorem State.settle_drainEnded_settled {s u : State} (hm : s.ModeLaw) (hrun : u.run = s.run)
    (hscan : u.scan = s.scan) : u.settle.drainEnded.Settled := by
  refine State.drainEnded_settled u.settled_settle fun hmode => ?_
  rw [State.settle_run, hrun] at hmode
  have hrests : u.scan.Rests := hscan ▸ State.ModeLaw.rests hm hmode
  have hstill : u.settle = u := State.settle_of_settled (by simpa [State.Settled] using State.settled_of_rests hrests)
  rwa [hstill]

theorem State.takeResult_settled (s : State) (i : PortNo) (r : ConvRecord) (code : BitVec 16)
    (range : RangeFlag) : (s.takeResult i r code range).Settled := by
  unfold State.takeResult
  simp only
  split <;> exact State.settled_settle _

theorem State.receive_settled {s : State} (i : PortNo) (m : LinkRx) (hm : s.ModeLaw) (hs : s.Settled) :
    (s.receive i m).Settled := by
  have hstray : (s.modPort i SamplePort.stray).Settled := State.settled_of_keepsWaiting hs (.modPort rfl)
  have hrelease (r : ConvRecord) : (s.takeRelease i r).Settled :=
    State.settle_drainEnded_settled hm rfl rfl
  unfold State.receive
  split
  · split
    · exact State.takeResult_settled ..
    · exact hstray
  · split
    · exact hrelease _
    · exact hstray
  · split
    · exact hrelease _
    · exact hstray
  · exact State.settled_settle _
  · exact hstray

theorem State.takeTick_settled {s : State} (hs : s.Settled) : s.takeTick.Settled := by
  have hinterval : s.KeepsWaiting (s.modScan Scan.nextInterval) :=
    .modScan rfl (fun _ => rfl) rfl fun _ => rfl
  unfold State.takeTick
  simp only
  split
  · exact State.settled_settle _
  · have hlate : s.KeepsWaiting ((s.modScan Scan.nextInterval).modScan fun c => { c with late := true }) :=
      hinterval.trans (.modScan rfl (fun _ => rfl) rfl fun _ => rfl)
    exact State.settled_of_keepsWaiting hs (hlate.trans (.of_eq rfl rfl rfl))
  · exact State.settled_of_keepsWaiting hs hinterval

/-- The content of the initial state: no pass and no run (R196). -/
theorem initialState_rests (high : Bool) (waiting : List Instr) : (initialState high waiting).scan.Rests :=
  ⟨nofun, rfl⟩

/-- The effect of every row of the table leaves the engine settled. -/
theorem exec_settled {c : Instr} {s t : State} (hm : s.ModeLaw) (hs : s.Settled) (ht : exec c s = .next t) :
    t.Settled := by
  cases c with
  | define p ps => exact runCommand_settled hs (defineRule_settled hs) ht
  | find p ps => exact runCommand_settled hs (findRule_state.symm ▸ hs) ht
  | readProfile p ps => exact runCommand_settled hs (readProfileRule_settled hs) ht
  | readValue p ps => exact runCommand_settled hs (readValueRule_settled hs) ht
  | edit p ps => exact runCommand_settled hs (editRule_settled hs) ht
  | activate p ps => exact runCommand_settled hs (lifecycleRule_settled .draft activated hs) ht
  | park p ps => exact runCommand_settled hs (lifecycleRule_settled .live parkedPoint hs) ht
  | unpark p ps => exact runCommand_settled hs (lifecycleRule_settled .parked unparkedPoint hs) ht
  | retire p ps => exact runCommand_settled hs (retireRule_settled hs) ht
  | readChanged p ps => exact runCommand_settled hs (readChangedRule_settled hs) ht
  | hold p ps => exact runCommand_settled hs (holdRule_settled hs) ht
  | release p ps => exact runCommand_settled hs (releaseRule_settled hs) ht
  | rlistInsert p ps => exact runCommand_settled hs (rlistInsertRule_settled hs) ht
  | rlistRemove p ps => exact runCommand_settled hs (rlistRemoveRule_settled hs) ht
  | rlistClear p ps => exact runCommand_settled hs (State.settled_clearList hs) ht
  | rlistRead p ps => exact runCommand_settled hs (rlistReadRule_state.symm ▸ hs) ht
  | plistSet p ps => exact runCommand_settled hs (plistSetRule_settled hs) ht
  | plistRead p ps => exact runCommand_settled hs (plistReadRule_state.symm ▸ hs) ht
  | scanStart p ps => exact runCommand_settled hs (scanStartRule_settled hs) ht
  | scanStop p ps => exact runCommand_settled hs (State.stopScan_settled hs) ht
  | scanHalt p ps => exact runCommand_settled hs s.halt_settled ht
  | skipPass p ps => exact runCommand_settled hs (skipPassRule_settled hs) ht
  | runPriority p ps => exact runCommand_settled hs (State.requestRun_settled hs) ht
  | abortPoint p ps => exact runCommand_settled hs (abortPointRule_settled hs) ht
  | scanConfig p ps => exact runCommand_settled hs (scanConfigRule_settled hs) ht
  | scanStatus p ps => exact runCommand_settled hs hs ht
  | condRead p ps => exact runCommand_settled hs (condReadRule_state.symm ▸ hs) ht
  | ack p ps => exact runCommand_settled hs (ackRule_settled hs) ht
  | ackUpto p ps => exact runCommand_settled hs (ackUptoRule_settled hs) ht
  | condClear p ps => exact runCommand_settled hs (condClearRule_settled hs) ht
  | portConfig p ps => exact runCommand_settled hs (portConfigRule_settled hs) ht
  | portRestore p ps => exact runCommand_settled hs (portRestoreRule_settled hs) ht
  | portStatus p ps => exact runCommand_settled hs (portStatusRule_settled hs) ht
  | status p ps => exact runCommand_settled hs hs ht
  | clearFlags p ps => exact runCommand_settled hs (clearFlagsRule_settled hs) ht
  | attnMask p ps => exact runCommand_settled hs (attnMaskRule_settled hs) ht
  | identify p ps => exact runCommand_settled hs hs ht
  | enterQuiet p ps => exact runCommand_settled hs (enterQuietRule_settled hs) ht
  | exitQuiet p ps => exact runCommand_settled hs (exitQuietRule_settled hm hs) ht
  | softReset p ps => exact runCommand_settled hs (s.softReset_settled p) ht
  | unknownOpcode p opcode ps => exact execUnknownOpcode_settled hs ht
  | commandFrame bus bytes =>
    unfold exec execCommandFrame at ht
    refine onEvent_settled hs ?_ ht
    cases bus with
    | spi => exact State.spiWrite_settled bytes hs
    | i2c address => exact State.i2cWrite_settled address bytes hs
  | fetch bus =>
    unfold exec execFetch at ht
    refine onEvent_settled hs ?_ ht
    cases bus with
    | spi => exact State.settled_of_keepsWaiting hs (.of_eq rfl rfl rfl)
    | i2c address => exact State.i2cRead_settled address hs
  | fetchEnd p delivered =>
    unfold exec execFetchEnd at ht
    exact onEvent_settled hs (State.settled_of_keepsWaiting hs (.of_eq rfl rfl rfl)) ht
  | result i seq code range =>
    unfold exec execResult at ht
    exact onEvent_settled hs (State.receive_settled i _ hm hs) ht
  | cancelAck i seq =>
    unfold exec execCancelAck at ht
    exact onEvent_settled hs (State.receive_settled i _ hm hs) ht
  | present i cls =>
    unfold exec execPresent at ht
    exact onEvent_settled hs (State.receive_settled i _ hm hs) ht
  | damagedMessage i burst =>
    unfold exec execDamagedMessage at ht
    exact onEvent_settled hs (State.receive_settled i _ hm hs) ht
  | timeout i =>
    unfold exec execTimeout at ht
    refine onEvent_settled hs ?_ ht
    split
    · split
      · exact State.settled_settle _
      · exact hs
    all_goals exact hs
  | cancelTimerExpiry i =>
    unfold exec execCancelTimerExpiry at ht
    refine onEvent_settled hs ?_ ht
    split
    · split
      · exact State.settle_drainEnded_settled hm rfl rfl
      · exact hs
    all_goals exact hs
  | probeTimerExpiry i =>
    unfold exec execProbeTimerExpiry at ht
    refine onEvent_settled hs ?_ ht
    split
    · split
      · exact State.settled_settle _
      · exact hs
    all_goals exact hs
  | periodTick =>
    unfold exec execPeriodTick at ht
    refine onEvent_settled hs ?_ ht
    split
    · exact State.takeTick_settled hs
    · exact hs
  | holdExpiry n =>
    unfold exec execHoldExpiry at ht
    refine onEvent_settled hs ?_ ht
    split
    · split
      · exact State.settled_of_keepsWaiting hs (.of_eq rfl rfl rfl)
      · exact hs
    · exact hs
  | wakeGuardExpiry =>
    unfold exec execWakeGuardExpiry at ht
    refine onEvent_settled hs ?_ ht
    split
    · exact State.settled_of_keepsWaiting hs (.of_eq rfl rfl rfl)
    · exact hs
  | ptrig =>
    unfold exec execPtrig at ht
    refine onEvent_settled hs ?_ ht
    split
    · exact State.requestRun_settled hs
    · exact hs
  | powerOn high =>
    cases ht
    exact State.settled_of_rests (initialState_rests high s.pending)
  | resetN edge =>
    cases edge with
    | rise high =>
      cases ht
      exact State.settled_of_rests (initialState_rests high s.pending)
    | fall =>
      cases ht
      have hcym : s.KeepsWaiting (s.modScan fun c => { c with cym := false }) :=
        .modScan rfl (fun _ => rfl) rfl fun _ => rfl
      exact State.settled_of_keepsWaiting hs (hcym.trans (.of_eq rfl rfl rfl))

/-- Settles O53: the front step runs on a state that differs in its queue alone, and its row leaves the engine
settled; a tick runs down timers only. -/
theorem everyStepLeavesTheEngineSettled : Obligations.EveryStepLeavesTheEngineSettled := by
  intro s t hm hs ht
  unfold step at ht
  split at ht
  · cases ht
    exact State.settled_of_keepsWaiting hs (State.keepsWaiting_idle s)
  · rename_i c rest _
    have hqueue : s.KeepsWaiting { s with pending := rest } := .of_eq rfl rfl rfl
    exact exec_settled (s := { s with pending := rest }) hm (State.settled_of_keepsWaiting hs hqueue) ht

/-! ### The moves of an event (R65, R67) -/

/-- With fuel for all that is left to do, more fuel leads no further. -/
theorem settleWithin_fuel {s : State} {fuel fuel' : Nat} (h : s.scan.work ≤ fuel) (h' : s.scan.work ≤ fuel') :
    settleWithin fuel s = settleWithin fuel' s := by
  have still (f : Nat) {u : State} (hu : u.engineMove = none) : settleWithin f u = u := by
    cases f with
    | zero => rfl
    | succ f => rw [settleWithin, hu]
  induction fuel generalizing s fuel' with
  | zero =>
    have hs := settleWithin_settled 0 s h
    exact (still 0 hs).trans (still fuel' hs).symm
  | succ fuel ih =>
    cases hm : s.engineMove with
    | none => rw [still _ hm, still _ hm]
    | some t =>
      have hwork := State.engineMove_work hm
      obtain ⟨k, rfl⟩ : ∃ k, fuel' = k + 1 := ⟨fuel' - 1, by omega⟩
      rw [settleWithin, settleWithin, hm]
      exact ih (by omega) (by omega)

/-- A move is the beginning of the engine's part of the event. -/
theorem State.settle_of_move {s t : State} (h : s.engineMove = some t) : s.settle = t.settle := by
  have hwork := State.engineMove_work h
  have hbound := s.scan.work_le_moveBound
  obtain ⟨k, hk⟩ : ∃ k, s.scan.moveBound = k + 1 := ⟨s.scan.moveBound - 1, by omega⟩
  calc
    s.settle = settleWithin k t := by rw [State.settle, hk, settleWithin, h]
    _ = t.settle := settleWithin_fuel (by omega) t.scan.work_le_moveBound

/-- Settles O31: the moves come to rest, and a bound that suffices makes each move the beginning of the rest. -/
theorem settleTakesEveryMove : Obligations.SettleTakesEveryMove := fun s =>
  ⟨s.settled_settle, State.settle_of_settled, fun _ => State.settle_of_move⟩

/-! ### The examination at a cursor (R65, R66, R88, R89, R111) -/

/-- The cursor of a list stands at its first PENDING entry (R57). -/
theorem cursorPoint_append {pre post : List Entry} {n : PointNo} (hpre : ∀ e ∈ pre, e.outcome ≠ .pending) :
    cursorPoint (pre ++ ⟨n, .pending⟩ :: post) = some n := by
  have hnone : pre.find? (fun e => e.outcome == .pending) = none := by simpa using hpre
  simp [cursorPoint, List.find?_append, hnone]

/-- The entry at the cursor takes its outcome, and no other entry changes. -/
theorem resolveCursor_append {pre post : List Entry} {n : PointNo} (out : EntryOutcome)
    (hpre : ∀ e ∈ pre, e.outcome ≠ .pending) :
    resolveCursor out (pre ++ ⟨n, .pending⟩ :: post) = pre ++ ⟨n, out⟩ :: post := by
  induction pre with
  | nil => simp [resolveCursor]
  | cons e pre ih =>
    have he : e.outcome ≠ .pending := hpre e List.mem_cons_self
    simp [resolveCursor, he, ih fun e h => hpre e (List.mem_cons_of_mem _ h)]

section

variable {s : State} {n : PointNo}

/-! The table of R65, line by line. -/

theorem State.examine_skipped (h : (s.pt n).state ≠ .live) : s.examine n = .skipped := if_neg h

theorem State.examine_faulted (h : (s.pt n).state = .live)
    (hp : (s.port (s.pt n).active.route.port).phase = .offline
      ∨ (s.port (s.pt n).active.route.port).phase = .faulted) : s.examine n = .faulted := by
  rcases hp with hp | hp <;> simp [State.examine, h, hp]

theorem State.examine_dispatched (h : (s.pt n).state = .live)
    (hp : (s.port (s.pt n).active.route.port).phase = .idle) (hm : (s.pt n).inFlight = none) :
    s.examine n = .dispatched := by
  simp [State.examine, h, hp, hm]

theorem State.examine_marked (h : (s.pt n).state = .live)
    (hp : (s.port (s.pt n).active.route.port).phase = .idle) (hm : (s.pt n).inFlight ≠ none) :
    s.examine n = .waits := by
  simp [State.examine, h, hp, hm]

theorem State.examine_occupied (h : (s.pt n).state = .live)
    (hp : (s.port (s.pt n).active.route.port).phase.draining = true
      ∨ (s.port (s.pt n).active.route.port).phase.isProbing = true) : s.examine n = .waits := by
  unfold State.examine
  rw [if_pos h]
  generalize (s.port (s.pt n).active.route.port).phase = ph at hp
  cases ph with
  | probing | busy | cancelling => rfl
  | offline | idle | faulted => simp [Phase.draining, Phase.isProbing] at hp

end

theorem Scan.inForce_eq_some {c : Scan} {o : Origin} :
    c.inForce = some o ↔ c.prioActive = true ∧ o = .priority
      ∨ c.prioActive = false ∧ c.scanner = .pass ∧ o = .routine := by
  unfold Scan.inForce
  cases c.prioActive <;> cases c.scanner <;> simp [eq_comm]

/-- Where no end is due, the engine's move is the examination at the cursor in force. -/
theorem State.engineMove_of_inForce {s : State} {o : Origin} (hpass : s.scan.passOver = false)
    (hrun : s.scan.runOver = false) (ho : s.scan.inForce = some o) : s.engineMove = s.examineCursor o := by
  simp [State.engineMove, hpass, hrun, ho]

/-- Settles O32: with no end due the move is the examination of the first PENDING entry, line by line of the
table of R65. -/
theorem cursorFollowsTheDispatchTable : Obligations.CursorFollowsTheDispatchTable := by
  intro s o pre post n hpass hrun ho hes hpre x i resolved
  have hpass : s.scan.passOver = false := by rwa [← Bool.not_eq_true, Scan.passOver_iff]
  have hrun : s.scan.runOver = false := by rwa [← Bool.not_eq_true, Scan.runOver_iff]
  have hcursor : cursorPoint (s.scan.entries o) = some n := by rw [hes, cursorPoint_append hpre]
  have hmove : s.engineMove = s.examineCursor o :=
    State.engineMove_of_inForce hpass hrun (Scan.inForce_eq_some.2 ho)
  have hresolve (out : EntryOutcome) : s.resolveAtCursor o out = { s with scan := resolved out } := by
    simp only [State.resolveAtCursor, State.modScan, hes, resolveCursor_append out hpre, resolved]
  rw [hmove]
  unfold State.examineCursor
  simp only [hcursor]
  refine ⟨fun hlive => ?_, fun hlive hph => ?_, fun hlive hph hmark => ?_, fun hlive hph hmark => ?_,
    fun hlive hph => ?_⟩
  · simp only [State.examine_skipped hlive, hresolve]
  · simp only [State.examine_faulted hlive hph, hresolve]
    rfl
  · simp only [State.examine_dispatched hlive hph hmark, State.dispatch, hresolve]
    rfl
  · simp only [State.examine_marked hlive hph hmark]
  · simp only [State.examine_occupied hlive hph]

/-! ### Timers (R64, R70, R71, R146, R149, R153, R190) -/

/-- A tick in GAP starts the next interval and a pass (R64, R70). -/
theorem State.takeTick_gap {s : State} (h : s.scan.scanner = .gap) :
    s.takeTick = State.settle { s with scan := { s.scan with
      periodTimer := some (10 * s.scan.period), scanner := .pass, late := false, cym := false
      active := s.scan.active.map fun e => { e with outcome := .pending } } } := by
  simp [State.takeTick, h, State.modScan, Scan.nextInterval, Scan.startPass, setOutcomes, Config.periodUnit,
    Nat.mul_comm]

/-- A tick in PASS starts the next interval and is an overrun (R71). -/
theorem State.takeTick_pass {s : State} (h : s.scan.scanner = .pass) :
    s.takeTick = { s with
      scan := { s.scan with periodTimer := some (10 * s.scan.period), late := true }
      attn := { s.attn with overrun := true } } := by
  simp [State.takeTick, h, State.modScan, State.modAttn, Scan.nextInterval, Config.periodUnit, Nat.mul_comm]

/-- The one hold of a point is the one found on it (R145). -/
theorem State.holdOn_of_mem {s : State} {h : HoldRecord} (hd : (s.holds.map HoldRecord.point).Nodup)
    (hh : h ∈ s.holds) : s.holdOn h.point = some h := by
  cases hf : s.holdOn h.point with
  | none => simpa using List.find?_eq_none.1 hf h hh
  | some k =>
    have hpoint : k.point = h.point := by simpa using List.find?_some hf
    rw [List.inj_on_of_nodup_map hd (List.mem_of_find?_eq_some hf) hh hpoint]

/-- Settles O50: each expiry acts where its timer stands at 0, and is no event elsewhere. -/
theorem timersExpire : Obligations.TimersExpire := by
  intro s hr c
  have htick : exec .periodTick s = .next (if s.scan.periodTimer = some 0 then s.takeTick else s) :=
    execPeriodTick_eq hr
  have hguard : exec .wakeGuardExpiry s = .next (if s.run.wakeGuard = some 0 then s.endGuard else s) :=
    execWakeGuardExpiry_eq hr
  refine ⟨fun h0 => ⟨fun hgap => ?_, fun hpass => ?_⟩, fun h0 => ?_,
    fun h hh ⟨_, hd, _⟩ => ⟨fun h0 => ?_, fun h0 => ?_⟩, fun n hn => ?_, fun h0 => ?_, fun h0 => ?_⟩
  · rw [htick, if_pos h0, State.takeTick_gap hgap]
  · rw [htick, if_pos h0, State.takeTick_pass hpass]
  · rw [htick, if_neg h0]
  · exact execHoldExpiry_runOut hr (State.holdOn_of_mem hd hh) h0
  · exact execHoldExpiry_timeLeft (State.holdOn_of_mem hd hh) h0
  · exact execHoldExpiry_unheld (List.find?_eq_none.2 (by simpa using hn))
  · rw [hguard, if_pos h0]
    rfl
  · rw [hguard, if_neg h0]

/-! ### Flags and masks as bytes (R202) -/

theorem flagOf_eq_none {b : Byte} (h : 1 < b.toNat) : flagOf b = none := by
  have h0 : b ≠ 0x00#8 := by rintro rfl; simp at h
  have h1 : b ≠ 0x01#8 := by rintro rfl; simp at h
  simp [flagOf, h0, h1]

theorem flagOf_eq_some {b : Byte} (h : b.toNat ≤ 1) : flagOf b = some (decide (b.toNat = 1)) := by
  obtain h | h : b = 0x00#8 ∨ b = 0x01#8 := by bv_omega
  all_goals subst h; rfl

theorem maskOf_eq_none {b : Byte} (h : 128 ≤ b.toNat) : maskOf b = none := by
  simp [maskOf, BitVec.msb_eq_decide, h]

theorem maskOf_eq_some {b : Byte} (h : b.toNat < 128) : maskOf b = some (BitVec.ofNat 7 b.toNat) := by
  have : b.msb = false := by simp [BitVec.msb_eq_decide, h]
  simp [maskOf, this]

theorem maskByte_eq (m : BitVec 7) : maskByte m = byteOf m.toNat := by
  simp [maskByte, byteOf]

/-- A mask without bit 7 is its byte. -/
theorem maskByte_ofNat {b : Byte} (h : b.toNat < 128) : maskByte (BitVec.ofNat 7 b.toNat) = b := by
  apply BitVec.eq_of_toNat_eq
  simp [maskByte]
  omega

/-! ### SCAN_CONFIG, ATTN_MASK and CLEAR_FLAGS (R80, R178, R179) -/

section

variable {ps : List Byte} {s : State}

theorem scanConfigRule_badParam (h : numAt16 ps 0 = 0 ∨ 1 < numAt ps 2) :
    scanConfigRule ps s = refuse .badParam s := by
  unfold scanConfigRule
  rcases h with h | h
  · split
    · rfl
    · exact if_pos h
  · rw [flagOf_eq_none h]

theorem scanConfigRule_accepted (h0 : numAt16 ps 0 ≠ 0) (h : numAt ps 2 ≤ 1) :
    scanConfigRule ps s = accept [] { s with scan := { s.scan with
      period := numAt16 ps 0, trigger := decide (numAt ps 2 = 1) } } := by
  unfold scanConfigRule
  rw [flagOf_eq_some h]
  exact if_neg h0

theorem attnMaskRule_badParam (h : 128 ≤ numAt ps 0) : attnMaskRule ps s = refuse .badParam s := by
  unfold attnMaskRule
  rw [maskOf_eq_none h]

theorem attnMaskRule_accepted (h : numAt ps 0 < 128) :
    attnMaskRule ps s = accept [byteOf s.attn.mask.toNat, byteAt ps 0]
      { s with attn := { s.attn with mask := BitVec.ofNat 7 (numAt ps 0) } } := by
  unfold attnMaskRule
  rw [maskOf_eq_some h]
  simp only [maskByte_ofNat h, maskByte_eq s.attn.mask]
  rfl

theorem clearFlagsRule_badParam (h : 128 ≤ numAt ps 0) : clearFlagsRule ps s = refuse .badParam s := by
  unfold clearFlagsRule
  rw [maskOf_eq_none h]

theorem clearFlagsRule_accepted (h : numAt ps 0 < 128) :
    clearFlagsRule ps s =
      accept [byteOf (s.modAttn fun a => a.clearNamed (BitVec.ofNat 7 (numAt ps 0))).sources.toNat]
        (s.modAttn fun a => a.clearNamed (BitVec.ofNat 7 (numAt ps 0))) := by
  unfold clearFlagsRule
  rw [maskOf_eq_some h]
  simp only [maskByte_eq]
  rfl

theorem Attention.clearNamed_ofByte (a : Attention) (b : Byte) :
    a.clearNamed (BitVec.ofNat 7 b.toNat) = { a with
      overrun := a.overrun && !b.getLsbD 3
      prioDone := a.prioDone && !b.getLsbD 4
      prioLost := a.prioLost && !b.getLsbD 5
      holdExpired := a.holdExpired && !b.getLsbD 6 } := by
  simp [Attention.clearNamed]

end

/-- Settles O28: each rule refuses the values it does not define and else writes its own items. -/
theorem configurationWrites : Obligations.ConfigurationWrites := by
  intro p ps s hw
  have hm := refusalOfMode_works hw
  refine ⟨fun ht hl => ?_, fun ht hl => ?_, fun ht hl => ?_⟩
  all_goals
    have answers {st data t} := exec_row_answered (st := st) (data := data) (t := t) ht hm (decide_eq_true hl)
  · exact ⟨fun h => answers (scanConfigRule_badParam h), fun h0 h => answers (scanConfigRule_accepted h0 h)⟩
  · exact ⟨fun h => answers (attnMaskRule_badParam h), fun h => answers (attnMaskRule_accepted h)⟩
  · refine ⟨fun h => answers (clearFlagsRule_badParam h),
      fun h => ⟨_, ?_, answers (clearFlagsRule_accepted h)⟩⟩
    simp only [State.modAttn, numAt, Attention.clearNamed_ofByte]

/-! ### Priority requests (R76 to R78) -/

section

variable {s : State}

/-- A request without a run in progress starts one (R77). -/
theorem State.requestRun_started (h : s.scan.prioActive = false) :
    s.requestRun = State.settle { s with scan := { s.scan with
      prioActive := true, prio := s.scan.prio.map fun e => { e with outcome := .pending } } } := by
  simp [State.requestRun, h, State.modScan, Scan.startRun, setOutcomes]

/-- A request during a run is held for a rerun (R78). -/
theorem State.requestRun_held (h : s.scan.prioActive = true) (hr : s.scan.rerun = false) :
    s.requestRun = { s with scan := { s.scan with rerun := true } } := by
  simp [State.requestRun, h, hr, State.modScan]

/-- A request where a rerun is held is lost (R78). -/
theorem State.requestRun_lost (h : s.scan.prioActive = true) (hr : s.scan.rerun = true) :
    s.requestRun = { s with attn := { s.attn with prioLost := true } } := by
  simp [State.requestRun, h, hr, State.modAttn]

end

/-- Settles O26: RUN_PRIORITY and an edge that counts make the one request, whose three outcomes are told apart
by the run in progress and the rerun held. -/
theorem priorityRequests : Obligations.PriorityRequests := by
  intro p ps s c started held lost
  refine ⟨fun ht hact hl => ?_, fun hout htrig hact => ?_, fun hno => ?_⟩
  · have answers {data t} (hcode : [requestCode s.scan] = data) (hrun : s.requestRun = t) :
        exec (.runPriority p ps) s = .next (t.answered p .ok data) :=
      exec_row_answered ht (by rw [hact]; rfl) (decide_eq_true hl) (by rw [← hcode, ← hrun]; rfl)
    refine ⟨fun h => answers ?_ (State.requestRun_started h), fun h hr => answers ?_ (State.requestRun_held h hr),
      fun h hr => answers ?_ (State.requestRun_lost h hr)⟩
    · simp [requestCode, show s.scan.prioActive = false from h]
    · simp [requestCode, show s.scan.prioActive = true from h, show s.scan.rerun = false from hr]
    · simp [requestCode, show s.scan.prioActive = true from h, show s.scan.rerun = true from hr]
  · have hedge : exec .ptrig s = .next s.requestRun :=
      (onEvent_out hout).trans (congrArg _ (if_pos ⟨htrig, hact⟩))
    refine ⟨fun h => ?_, fun h hr => ?_, fun h hr => ?_⟩
    · rw [hedge, State.requestRun_started h]
    · rw [hedge, State.requestRun_held h hr]
    · rw [hedge, State.requestRun_lost h hr]
  · refine onEvent_idle (if_neg ?_)
    rintro ⟨htrig, hact⟩
    rcases hno with hno | hno
    · exact Bool.false_ne_true (hno.symm.trans htrig)
    · exact hno hact

/-! ### PLIST_SET (R60) -/

section

variable {s : State}

/-- Points numbered by a list of numbers are what the list resolves to, each number by itself. -/
theorem State.resolveAll_eq_some {ks : List Nat} {ns : List PointNo} :
    s.resolveAll ks = some ns ↔ List.Forall₂ (fun k n => s.resolveNumber k = some n) ks ns := by
  induction ks generalizing ns with
  | nil => cases ns <;> simp [State.resolveAll]
  | cons k ks ih =>
    cases ns with
    | nil => simp only [State.resolveAll]; split <;> simp
    | cons n ns =>
      rw [List.forall₂_cons, ← ih]
      simp only [State.resolveAll]
      cases s.resolveNumber k <;> cases s.resolveAll ks <;> simp

/-- A list resolves unless one of its numbers does not. -/
theorem State.resolveAll_eq_none {ks : List Nat} :
    s.resolveAll ks = none ↔ ∃ k ∈ ks, s.resolveNumber k = none := by
  induction ks with
  | nil => simp [State.resolveAll]
  | cons k ks ih =>
    rw [List.exists_mem_cons_iff, ← ih]
    simp only [State.resolveAll]
    cases s.resolveNumber k <;> cases s.resolveAll ks <;> simp

theorem State.resolveNumber_eq_none {k : Nat} :
    s.resolveNumber k = none ↔ ¬∃ n : PointNo, n.val = k ∧ (s.pt n).state.named = true := by
  simp only [Option.eq_none_iff_forall_ne_some, ne_eq, State.resolveNumber_eq_some, eq_comm (a := k), not_exists]

/-- The points a PLIST_SET names, position by position. -/
theorem State.resolveAll_plistNumbers {ps : List Byte} {ns : List PointNo} :
    s.resolveAll (plistNumbers ps) = some ns ↔ ns.length = numAt ps 0
      ∧ ∀ (i : Nat) (n : PointNo), ns[i]? = some n →
        n.val = numAt16 ps (1 + 2 * i) ∧ (s.pt n).state.named = true := by
  simp only [State.resolveAll_eq_some, List.forall₂_iff_get, State.resolveNumber_eq_some, plistNumbers,
    List.length_map, List.length_range, List.get_eq_getElem, List.getElem_map, List.getElem_range]
  refine ⟨fun ⟨hl, h⟩ => ⟨hl.symm, fun i n hn => ?_⟩, fun ⟨hl, h⟩ => ⟨hl.symm, fun i h1 h2 => ?_⟩⟩
  · obtain ⟨h2, rfl⟩ := List.getElem?_eq_some_iff.1 hn
    obtain ⟨hk, hnamed⟩ := h i (hl ▸ h2) h2
    exact ⟨hk.symm, hnamed⟩
  · obtain ⟨hk, hnamed⟩ := h i _ (List.getElem?_eq_getElem h2)
    exact ⟨hk.symm, hnamed⟩

theorem State.resolveAll_plistNumbers_eq_none {ps : List Byte} :
    s.resolveAll (plistNumbers ps) = none ↔ ∃ i, i < numAt ps 0
      ∧ ¬∃ n : PointNo, n.val = numAt16 ps (1 + 2 * i) ∧ (s.pt n).state.named = true := by
  simp only [State.resolveAll_eq_none, State.resolveNumber_eq_none, plistNumbers, List.mem_map, List.mem_range,
    exists_exists_and_eq_and]

/-! PLIST_SET's own rule, outcome by outcome, in the order of its checks (R60). -/

variable {ps : List Byte}

theorem plistSetRule_badParam (h : 16 < numAt ps 0 ∨ ps.length ≠ 1 + 2 * numAt ps 0) :
    plistSetRule ps s = refuse .badParam s := if_pos h

section

variable (hc : numAt ps 0 ≤ 16) (hl : ps.length = 1 + 2 * numAt ps 0)

include hc hl

theorem plistSetRule_fits : ¬(Config.priorityCapacity < numAt ps 0 ∨ ps.length ≠ 1 + 2 * numAt ps 0) := by
  simp only [Config.priorityCapacity]
  omega

theorem plistSetRule_busy (hrun : s.scan.prioActive = true) : plistSetRule ps s = refuse .busy s := by
  rw [plistSetRule, if_neg (plistSetRule_fits hc hl), if_pos hrun]

theorem plistSetRule_noPoint (hrun : s.scan.prioActive = false) (hns : s.resolveAll (plistNumbers ps) = none) :
    plistSetRule ps s = refuse .noPoint s := by
  rw [plistSetRule, if_neg (plistSetRule_fits hc hl), if_neg (by simp [hrun]), hns]

theorem plistSetRule_duplicate {ns : List PointNo} (hrun : s.scan.prioActive = false)
    (hns : s.resolveAll (plistNumbers ps) = some ns) (hd : ¬ns.Nodup) :
    plistSetRule ps s = refuse .duplicate s := by
  rw [plistSetRule, if_neg (plistSetRule_fits hc hl), if_neg (by simp [hrun]), hns]
  exact if_neg hd

theorem plistSetRule_accepted {ns : List PointNo} (hrun : s.scan.prioActive = false)
    (hns : s.resolveAll (plistNumbers ps) = some ns) (hd : ns.Nodup) :
    plistSetRule ps s = accept [] (s.modScan fun c => { c with prio := freshEntries ns }) := by
  rw [plistSetRule, if_neg (plistSetRule_fits hc hl), if_neg (by simp [hrun]), hns]
  exact if_pos hd

end

/-- Two positions with one number name one point twice. -/
theorem not_nodup_of_same_number {ns : List PointNo} {i j : Nat} {number : Nat → Nat} (hij : i < j)
    (hj : j < ns.length) (hns : ∀ (i : Nat) (n : PointNo), ns[i]? = some n → n.val = number i)
    (hsame : number i = number j) : ¬ns.Nodup := by
  intro hd
  have hi : i < ns.length := hij.trans hj
  have hpoint : ns[i] = ns[j] := Fin.ext <| by
    rw [hns i _ (List.getElem?_eq_getElem hi), hns j _ (List.getElem?_eq_getElem hj), hsame]
  exact hij.ne (hd.getElem_inj_iff.1 hpoint)

end

/-- Settles O23: the numbers resolve position by position, and the first check that fails answers. -/
theorem plistSetReplacesTheList : Obligations.PlistSetReplacesTheList := by
  intro p ps s ht hw hlen count named
  have answers {st data t} := exec_row_answered (p := p) (st := st) (data := data) (t := t) ht
    (refusalOfMode_works hw) (decide_eq_true hlen)
  refine ⟨fun h => answers (plistSetRule_badParam h), fun hc hl =>
    ⟨fun hrun => answers (plistSetRule_busy hc hl hrun),
      fun hrun hno => answers (plistSetRule_noPoint hc hl hrun (State.resolveAll_plistNumbers_eq_none.2 hno)),
      fun hrun hall ⟨i, j, hij, hj, hsame⟩ => answers ?_,
      fun ns hrun hlength hd hns => answers
        (plistSetRule_accepted hc hl hrun (State.resolveAll_plistNumbers.2 ⟨hlength, hns⟩) hd)⟩⟩
  cases hres : s.resolveAll (plistNumbers ps) with
  | none =>
    obtain ⟨i, hi, hno⟩ := State.resolveAll_plistNumbers_eq_none.1 hres
    exact absurd (hall i hi) hno
  | some ns =>
    obtain ⟨hlength, hns⟩ := State.resolveAll_plistNumbers.1 hres
    exact plistSetRule_duplicate hc hl hrun hres
      (not_nodup_of_same_number (number := fun i => numAt16 ps (1 + 2 * i)) hij (hlength ▸ hj)
        (fun i n hn => (hns i n hn).1) hsame)

/-! ### What a level change moves (R125 to R133) -/

/-- From `s` to `t` nothing moves but the condition list and the condition parts of records. -/
structure State.ConditionMoves (s t : State) : Prop where
  frame : t = { s with points := t.points, cond := t.cond }
  record : ∀ m, t.pt m = { s.pt m with
    level := (t.pt m).level, candidate := (t.pt m).candidate, confirmCounter := (t.pt m).confirmCounter
    peak := (t.pt m).peak, unlisted := (t.pt m).unlisted }

theorem State.ConditionMoves.refl (s : State) : s.ConditionMoves s := ⟨rfl, fun _ => rfl⟩

theorem State.ConditionMoves.trans {s t u : State} (h : s.ConditionMoves t) (k : t.ConditionMoves u) :
    s.ConditionMoves u where
  frame := by rw [k.frame, h.frame]
  record m := by rw [k.record m, h.record m]

theorem State.ConditionMoves.modCond (s : State) (f : CondUnit → CondUnit) : s.ConditionMoves (s.modCond f) :=
  ⟨rfl, fun _ => rfl⟩

theorem State.ConditionMoves.modPt {s : State} {n : PointNo} {f : Point → Point}
    (h : f (s.pt n) = { s.pt n with
      level := (f (s.pt n)).level, candidate := (f (s.pt n)).candidate
      confirmCounter := (f (s.pt n)).confirmCounter, peak := (f (s.pt n)).peak
      unlisted := (f (s.pt n)).unlisted }) : s.ConditionMoves (s.modPt n f) := by
  refine ⟨rfl, fun m => ?_⟩
  by_cases e : n = m
  · subst e; simpa using h
  · rw [State.modPt_pt_ne _ _ e]

theorem State.conditionMoves_refill (s : State) : s.ConditionMoves s.refill := by
  unfold State.refill
  split
  · exact (State.ConditionMoves.modCond ..).trans (.modPt rfl)
  · exact .refl s

theorem State.conditionMoves_removeEntry (s : State) (n : PointNo) : s.ConditionMoves (s.removeEntry n) :=
  ((State.ConditionMoves.modCond ..).trans (.modPt rfl)).trans (State.conditionMoves_refill _)

theorem State.conditionMoves_changeListed (s : State) (n : PointNo) (e : CondEntry) (new : Level) :
    s.ConditionMoves (s.changeListed n e new) := by
  have hentry := (State.ConditionMoves.modCond s _).trans
    (State.ConditionMoves.modPt (s := s.modEntry n fun e => e.changed new) (n := n)
      (f := fun x => { x with peak := if e.peak.rank < new.rank then new else x.peak }) rfl)
  unfold State.changeListed
  simp only
  split
  · exact hentry.trans (State.conditionMoves_removeEntry ..)
  · exact hentry

theorem State.conditionMoves_changeMarked (s : State) (n : PointNo) (new : Level) :
    s.ConditionMoves (s.changeMarked n new) := by
  unfold State.changeMarked
  split
  · split
    · exact .modPt rfl
    · exact .refl s
  · exact .modPt rfl

theorem State.conditionMoves_changeUnlisted (s : State) (n : PointNo) (new : Level) :
    s.ConditionMoves (s.changeUnlisted n new) := by
  unfold State.changeUnlisted
  split
  · exact .refl s
  split
  · exact (State.ConditionMoves.modCond ..).trans (.modPt rfl)
  · exact .modPt rfl

theorem State.conditionMoves_levelChange (s : State) (n : PointNo) (new : Level) :
    s.ConditionMoves (s.levelChange n new) := by
  have hlevel : s.ConditionMoves
      (s.modPt n fun x => { x with level := new, candidate := none, confirmCounter := 0 }) := .modPt rfl
  unfold State.levelChange
  simp only
  split
  · exact hlevel.trans (State.conditionMoves_changeListed ..)
  · split
    · exact hlevel.trans (State.conditionMoves_changeMarked ..)
    · exact hlevel.trans (State.conditionMoves_changeUnlisted ..)

theorem State.conditionMoves_evaluate (s : State) (n : PointNo) (ind : Level) :
    s.ConditionMoves (s.evaluate n ind) := by
  unfold State.evaluate
  simp only
  split
  · exact State.conditionMoves_levelChange ..
  · exact .modPt rfl

/-! A level change neither reads nor writes the scan engine. -/

section

variable (s : State) (f : Scan → Scan) (n : PointNo) (new : Level)

theorem State.refill_modScan : (s.modScan f).refill = s.refill.modScan f := by
  unfold State.refill
  simp only [State.modScan_points]
  split <;> rfl

theorem State.removeEntry_modScan : (s.modScan f).removeEntry n = (s.removeEntry n).modScan f :=
  State.refill_modScan ((s.dropEntry n).modPt n fun x => { x with peak := .normal }) f

theorem State.changeListed_modScan (e : CondEntry) :
    (s.modScan f).changeListed n e new = (s.changeListed n e new).modScan f := by
  unfold State.changeListed
  simp only [State.modScan_pt]
  generalize hu : (s.modEntry n fun e => e.changed new).modPt n
    (fun x => { x with peak := if e.peak.rank < new.rank then new else x.peak }) = u
  have hcommute : ((s.modScan f).modEntry n fun e => e.changed new).modPt n
      (fun x => { x with peak := if e.peak.rank < new.rank then new else x.peak }) = u.modScan f := hu ▸ rfl
  rw [hcommute, State.removeEntry_modScan]
  exact (apply_ite (State.modScan · f) ..).symm

theorem State.changeMarked_modScan : (s.modScan f).changeMarked n new = (s.changeMarked n new).modScan f := by
  unfold State.changeMarked
  simp only [State.modScan_pt]
  split
  · split <;> rfl
  · rfl

theorem State.changeUnlisted_modScan :
    (s.modScan f).changeUnlisted n new = (s.changeUnlisted n new).modScan f := by
  unfold State.changeUnlisted
  simp only [apply_ite (State.modScan · f)]
  rfl

theorem State.levelChange_modScan : (s.modScan f).levelChange n new = (s.levelChange n new).modScan f := by
  unfold State.levelChange
  simp only
  generalize hu : (s.modPt n fun x => { x with level := new, candidate := none, confirmCounter := 0 }) = u
  have hcommute : ((s.modScan f).modPt n fun x => { x with level := new, candidate := none, confirmCounter := 0 })
      = u.modScan f := hu ▸ rfl
  have hentry : (u.modScan f).entryOf n = u.entryOf n := rfl
  rw [hcommute, hentry]
  split
  · exact State.changeListed_modScan ..
  · rw [State.changeMarked_modScan, State.changeUnlisted_modScan]
    exact (apply_ite (State.modScan · f) ..).symm

end

/-! ### A RESULT taken in BUSY (R90, R105, R110, R125) -/

section

variable {s : State} {i : PortNo} {r : ConvRecord} {k : Nat}

theorem State.receive_result {seq : Seq} (code : BitVec 16) (range : RangeFlag)
    (hp : (s.port i).phase = .busy r k) (hseq : r.seq = seq) :
    s.receive i (.result seq code range) = s.takeResult i r code range := by
  simp [State.receive, hp, hseq]

theorem exec_result {seq : Seq} (code : BitVec 16) (range : RangeFlag) (hr : s.heldInReset = false)
    (hp : (s.port i).phase = .busy r k) (hseq : r.seq = seq) :
    exec (.result i seq code range) s = .next (s.takeResult i r code range) := by
  rw [← State.receive_result code range hp hseq]
  exact onEvent_out (f := fun s => s.receive i (.result seq code range)) hr

/-- The end of the conversion of record `r` at port `i`: the port goes IDLE, and the record of its point is
`y` without a mark (R90). -/
def State.endedAs (s : State) (i : PortNo) (r : ConvRecord) (y : Point) : State := { s with
  ports := s.ports.set i { s.port i with phase := .idle, timeoutCount := 0 }
  points := s.points.set r.point { y with inFlight := none } }

@[simp] theorem State.endedAs_pt_self (s : State) (i : PortNo) (r : ConvRecord) (y : Point) :
    (s.endedAs i r y).pt r.point = { y with inFlight := none } := Table.get_set_self ..

theorem State.endedAs_port_self (s : State) (i : PortNo) (r : ConvRecord) (y : Point) :
    (s.endedAs i r y).port i = { s.port i with phase := .idle, timeoutCount := 0 } := Table.get_set_self ..

/-- The mark ends with the record, and a RETIRING point becomes FREE (R7, R19). -/
theorem State.endRecord_eq_endedAs (s : State) (i : PortNo) (r : ConvRecord) :
    (s.modPort i fun x => { x with phase := .idle, timeoutCount := 0 }).endRecord r.point
      = s.endedAs i r { s.pt r.point with
          state := if (s.pt r.point).state = .retiring then .free else (s.pt r.point).state } := rfl

theorem State.endedAs_modPt (s : State) (i : PortNo) (r : ConvRecord) (y : Point) {z : Point} {f : Point → Point}
    (h : f { y with inFlight := none } = { z with inFlight := none }) :
    (s.endedAs i r y).modPt r.point f = s.endedAs i r z := by
  simp only [State.modPt, State.endedAs_pt_self, h]
  simp [State.setPt, State.endedAs]

/-- A record is of no more account once it is superseded or its point is no longer LIVE (R90, R91). -/
theorem ConvRecord.not_current {x : Point} (h : r.superseded = true ∨ x.state ≠ .live) :
    ¬(r.superseded = false ∧ x.state = .live) := by
  rintro ⟨hs, hl⟩
  simp [hs, hl] at h

/-- A result of a superseded record, or of a point no longer LIVE, is discarded (R90). -/
theorem State.takeResult_discarded (code : BitVec 16) (range : RangeFlag)
    (h : r.superseded = true ∨ (s.pt r.point).state ≠ .live) :
    s.takeResult i r code range = State.settle
      ((s.endedAs i r { s.pt r.point with
        state := if (s.pt r.point).state = .retiring then .free else (s.pt r.point).state }).handOver
          r.origin r.point .skipped) := by
  rw [← State.endRecord_eq_endedAs]
  exact if_neg (ConvRecord.not_current h)

theorem State.takeResult_processed (code : BitVec 16) (range : RangeFlag) (hs : r.superseded = false)
    (hl : (s.pt r.point).state = .live) :
    s.takeResult i r code range = State.settle
      (((s.endedAs i r (s.pt r.point)).processResult r.point code range).handOver r.origin r.point .done) := by
  have hstate : (if (s.pt r.point).state = .retiring then .free else (s.pt r.point).state) = (s.pt r.point).state :=
    if_neg (by simp [hl])
  have hkeep := s.endRecord_eq_endedAs i r
  rw [hstate] at hkeep
  rw [← show _ = s.endedAs i r (s.pt r.point) from hkeep]
  exact if_pos ⟨hs, hl⟩

/-! Grading spares what the confirmation of a level reads (R105, R125). -/

theorem candidateAfter_graded (code : BitVec 16) (range : RangeFlag) (x : Point) (ind : Level) :
    candidateAfter { graded code range x with inFlight := none } ind = candidateAfter x ind := by
  cases range <;> rfl

theorem graded_active (code : BitVec 16) (range : RangeFlag) (x : Point) :
    (graded code range x).active = x.active := by
  cases range <;> rfl

theorem graded_eq (code : BitVec 16) (range : RangeFlag) (x : Point) :
    graded code range x =
      if range = .inRange then
        { x with
          raw := code, quality := .good, age := 0, seeded := true
          value := smoothed x.active.scale x.seeded x.value (scaled x.active.scale code) }
      else { x with raw := code, quality := .overrange } := by
  cases range <;> rfl

theorem candidateAfter_same {x : Point} {ind : Level} (h : ind = x.level) : candidateAfter x ind = (none, 0) :=
  if_pos h

theorem candidateAfter_other {x : Point} {ind : Level} (h : ind ≠ x.level) :
    candidateAfter x ind = (some ind,
      if x.candidate = some ind then
        (if x.confirmCounter < x.active.policy.confirm then x.confirmCounter + 1 else x.confirmCounter)
      else 1) := by
  unfold candidateAfter
  rw [if_neg h]
  split <;> rfl

/-- The point of a record that ends with a result, graded and evaluated (R105, R125). -/
def State.evaluatedEnd (s : State) (i : PortNo) (r : ConvRecord) (code : BitVec 16) (range : RangeFlag) : State :=
  (s.endedAs i r (graded code range (s.pt r.point))).evaluate r.point (indicatedBy code range (s.pt r.point))

/-- A level that the record's candidate and count confirm is taken, and any other leaves both in the record
(R125). -/
theorem State.evaluatedEnd_eq (code : BitVec 16) (range : RangeFlag) {ca : Option Level × Nat}
    (hca : candidateAfter (s.pt r.point) (indicatedBy code range (s.pt r.point)) = ca) :
    s.evaluatedEnd i r code range =
      if (s.pt r.point).active.policy.confirm ≤ ca.2 then
        (s.endedAs i r (graded code range (s.pt r.point))).levelChange r.point
          (indicatedBy code range (s.pt r.point))
      else s.endedAs i r { graded code range (s.pt r.point) with candidate := ca.1, confirmCounter := ca.2 } := by
  have hconfirm : (graded code range (s.pt r.point)).active.policy.confirm
      = (s.pt r.point).active.policy.confirm := by rw [graded_active]
  unfold State.evaluatedEnd State.evaluate
  simp only [State.endedAs_pt_self, candidateAfter_graded, hca, hconfirm]
  split
  · rfl
  · exact State.endedAs_modPt (f := fun x => { x with candidate := ca.1, confirmCounter := ca.2 })
      (z := { graded code range (s.pt r.point) with candidate := ca.1, confirmCounter := ca.2 }) _ _ _ _ rfl

theorem State.evaluatedEnd_value (s : State) (i : PortNo) (r : ConvRecord) (code : BitVec 16) (range : RangeFlag) :
    ((s.evaluatedEnd i r code range).pt r.point).value = (graded code range (s.pt r.point)).value
      ∧ ((s.evaluatedEnd i r code range).pt r.point).quality = (graded code range (s.pt r.point)).quality := by
  rw [State.evaluatedEnd, (State.conditionMoves_evaluate ..).record r.point, State.endedAs_pt_self]
  exact ⟨rfl, rfl⟩

theorem State.evaluatedEnd_ports (s : State) (i : PortNo) (r : ConvRecord) (code : BitVec 16) (range : RangeFlag) :
    (s.evaluatedEnd i r code range).ports = (s.endedAs i r (s.pt r.point)).ports := by
  rw [State.evaluatedEnd, (State.conditionMoves_evaluate ..).frame]
  rfl

theorem observablyDiffers_iff (x y : Point) :
    observablyDiffers x y = true ↔ y.value ≠ x.value ∨ y.quality ≠ x.quality ∨ y.level ≠ x.level := by
  simp [observablyDiffers, or_assoc, ne_comm]

/-- A processed result marks the point where value, quality or level differ (R110). -/
theorem State.processResult_endedAs (s : State) (i : PortNo) (r : ConvRecord) (code : BitVec 16)
    (range : RangeFlag) :
    (s.endedAs i r (s.pt r.point)).processResult r.point code range =
      if (graded code range (s.pt r.point)).value ≠ (s.pt r.point).value
          ∨ (graded code range (s.pt r.point)).quality ≠ (s.pt r.point).quality
          ∨ ((s.evaluatedEnd i r code range).pt r.point).level ≠ (s.pt r.point).level then
        (s.evaluatedEnd i r code range).mark r.point
      else s.evaluatedEnd i r code range := by
  have hgraded : (s.endedAs i r (s.pt r.point)).modPt r.point (graded code range)
      = s.endedAs i r (graded code range (s.pt r.point)) :=
    State.endedAs_modPt _ _ _ _ (by cases range <;> rfl)
  have hind : indicatedBy code range { s.pt r.point with inFlight := none }
      = indicatedBy code range (s.pt r.point) := by
    cases range <;> rfl
  obtain ⟨hvalue, hquality⟩ := s.evaluatedEnd_value i r code range
  unfold State.processResult
  simp only [hgraded, State.endedAs_pt_self, hind, observablyDiffers_iff]
  rw [← State.evaluatedEnd, hvalue, hquality]

end

/-- Settles O41: the record ends; a discarded result writes nothing more, and a processed one is graded,
evaluated and marked, which no outcome of an entry disturbs. -/
theorem resultIsTaken : Obligations.ResultIsTaken := by
  intro i seq code range s r k hr hp hseq n x ended
  rw [exec_result code range hr hp hseq]
  have hended (y : Point) (out : EntryOutcome) : ended y out = (s.endedAs i r y).handOver r.origin n out := rfl
  refine ⟨fun h => by rw [State.takeResult_discarded code range h, hended], fun hs hl hconfirm => ?_⟩
  intro y ind count
  have hy : graded code range x = y := graded_eq code range x
  refine ⟨(s.evaluatedEnd i r code range).handOver r.origin n .done, fun hsame => ?_, fun hother hcount => ?_,
    fun hother hcount => ?_, ?_⟩
  · rw [State.evaluatedEnd_eq code range (candidateAfter_same hsame), if_neg (Nat.not_le.2 hconfirm), hy, hended]
  · rw [State.evaluatedEnd_eq code range (candidateAfter_other hother), if_neg (Nat.not_le.2 hcount), hy, hended]
  · rw [State.evaluatedEnd_eq code range (candidateAfter_other hother), if_pos hcount, hy, hended]
    exact (State.levelChange_modScan ..).symm
  · rw [State.takeResult_processed code range hs hl, State.processResult_endedAs, ← hy]
    exact congrArg (Host.Outcome.next ∘ State.settle)
      (apply_ite (State.handOver · r.origin n .done) ..)

/-! ### Sample ports at a boundary of the scan (R43 to R45, R68) -/

/-- A promotion leaves a sample port as it is, or supersedes its record (R45). -/
theorem State.PromotesTo.port {s v : State} (h : s.PromotesTo v) (i : PortNo) :
    v.port i = (s.port i).supersedeRecord ∨ v.port i = s.port i := by
  obtain ⟨-, -, hport, -⟩ := h
  by_cases hn : ∃ n, (s.pt n).reroutes = true ∧ (s.pt n).inFlight = some i
  · exact .inl ((hport i).1 hn)
  · exact .inr ((hport i).2 fun n hr hi => hn ⟨n, hr, hi⟩)

/-- A pass-end acts on the sample ports by its promotion alone (R68). -/
theorem State.passEnd_port (s : State) (halted : Bool) : (s.passEnd halted).port = s.promoteProfiles.port := by
  have hages : (s.promoteProfiles.ageEntries s.scan.active).ports = s.promoteProfiles.ports := by
    rw [State.ageEntries_frame]
  funext i
  exact congrArg (Table.get · i) hages

/-! ### The conversion timer running out in BUSY (R91, R111) -/

/-- No conversion at port `i` has run out, and none that it opens runs out at once. -/
def State.NoTimeoutAt (s : State) (i : PortNo) : Prop :=
  1 ≤ (s.port i).timeout ∧ ∀ r, (s.port i).phase ≠ .busy r 0

theorem State.NoTimeoutAt.of_port {s t : State} {i : PortNo} (hs : s.NoTimeoutAt i) (h : t.port i = s.port i) :
    t.NoTimeoutAt i := by
  unfold State.NoTimeoutAt
  rw [h]
  exact hs

theorem State.NoTimeoutAt.of_supersede {s t : State} {i : PortNo} (hs : s.NoTimeoutAt i)
    (h : t.port i = (s.port i).supersedeRecord) : t.NoTimeoutAt i := by
  obtain ⟨hlength, hbusy⟩ := hs
  unfold State.NoTimeoutAt
  rw [h]
  refine ⟨hlength, fun r => ?_⟩
  simp only [SamplePort.supersedeRecord]
  cases hp : (s.port i).phase with
  | busy r' k =>
    have hk : k ≠ 0 := fun e => hbusy r' (e ▸ hp)
    simp [Phase.mapRecord, hk]
  | _ => simp [Phase.mapRecord]

theorem State.NoTimeoutAt.dispatch {s : State} {i : PortNo} (hs : s.NoTimeoutAt i) (o : Origin) (n : PointNo) :
    (s.dispatch o n).NoTimeoutAt i := by
  by_cases e : (s.pt n).active.route.port = i
  · have hport : (s.dispatch o n).port i = (s.port i).open n (s.pt n).active.route o := by
      subst e
      exact State.modPort_port_self ..
    unfold State.NoTimeoutAt
    rw [hport]
    exact ⟨hs.1, fun r h => absurd (Phase.busy.inj h).2 (Nat.ne_of_gt hs.1)⟩
  · exact hs.of_port (State.modPort_port_ne _ _ e)

/-- No move of the engine brings a timer to its end (R84, R89). -/
theorem State.NoTimeoutAt.move {s t : State} {i : PortNo} (h : s.engineMove = some t) (hs : s.NoTimeoutAt i) :
    t.NoTimeoutAt i := by
  rcases State.engineMove_cases h with
    ⟨_, rfl⟩ | ⟨_, _, rfl⟩ | ⟨o, n, _, _, _, _, ⟨_, rfl⟩ | ⟨_, rfl⟩ | ⟨_, rfl⟩⟩
  · have hport := congrFun (s.passEnd_port false) i
    rcases s.promoteProfiles_promotesTo.port i with hi | hi
    · exact hs.of_supersede (hport.trans hi)
    · exact hs.of_port (hport.trans hi)
  · exact hs.of_port rfl
  · exact hs.of_port rfl
  · exact hs.of_port rfl
  · exact hs.dispatch o n

theorem State.NoTimeoutAt.settle {s : State} {i : PortNo} (hs : s.NoTimeoutAt i) : s.settle.NoTimeoutAt i :=
  State.settle_induct (P := fun u => u.NoTimeoutAt i) (fun _ _ => State.NoTimeoutAt.move) hs

/-- After a result that was taken no timeout is due at its port (R99). -/
theorem State.takeResult_noTimeout {s : State} {i : PortNo} {r : ConvRecord} (code : BitVec 16) (range : RangeFlag)
    (h : 1 ≤ (s.port i).timeout) : (s.takeResult i r code range).NoTimeoutAt i := by
  have hended (y : Point) : (s.endedAs i r y).NoTimeoutAt i := by
    unfold State.NoTimeoutAt
    rw [State.endedAs_port_self]
    exact ⟨h, nofun⟩
  by_cases hd : r.superseded = true ∨ (s.pt r.point).state ≠ .live
  · rw [State.takeResult_discarded code range hd]
    refine State.NoTimeoutAt.settle ?_
    exact State.NoTimeoutAt.of_port (hended { s.pt r.point with
      state := if (s.pt r.point).state = .retiring then .free else (s.pt r.point).state }) rfl
  · rw [not_or, not_ne_iff, Bool.not_eq_true] at hd
    have hports : (s.evaluatedEnd i r code range).port i = (s.endedAs i r (s.pt r.point)).port i :=
      congrArg (Table.get · i) (s.evaluatedEnd_ports i r code range)
    rw [State.takeResult_processed code range hd.1 hd.2, State.processResult_endedAs]
    refine State.NoTimeoutAt.settle ((hended (s.pt r.point)).of_port ?_)
    split <;> exact hports

/-- Settles O44: a timeout writes port, entry and, for a LIVE point of a record not superseded, the fault; a
result that is taken leaves no timer of its port at its end. -/
theorem timeoutWithdrawsAndFaults : Obligations.TimeoutWithdrawsAndFaults := by
  intro i s hr
  refine ⟨execTimeout_none, fun r k code range hp hT => ?_, fun r hp => ?_⟩
  · exact ⟨_, exec_result code range hr hp rfl, execTimeout_none (State.takeResult_noTimeout code range hT).2⟩
  · have htimeout : exec (.timeout i) s = .next (s.takeTimeout i r) := execTimeout_runOut hr hp
    intro u
    refine ⟨fun hs hl => htimeout.trans ?_, fun hd => htimeout.trans ?_⟩
    · simp only [State.takeTimeout, if_pos (And.intro hs hl)]
      rfl
    · simp only [State.takeTimeout, if_neg (ConvRecord.not_current hd)]
      rfl

/-! ### Cancel requests and withdrawals (R73, R92) -/

/-- A cancel request to a BUSY port: CANCEL is sent, the timer restarts and the port goes CANCELLING (R92). -/
theorem SamplePort.cancelRequest_busy {x : SamplePort} {r : ConvRecord} {k : Nat} (h : x.phase = .busy r k) :
    x.cancelRequest = { x with
      phase := .cancelling { r with cancelled := true } r.timerLength, sent := x.sent ++ [.cancel r.seq] } := by
  simp [SamplePort.cancelRequest, h]

/-- A cancel request to a port that is not BUSY does nothing (R92). -/
theorem SamplePort.cancelRequest_of_not_busy {x : SamplePort} (h : ∀ r k, x.phase ≠ .busy r k) :
    x.cancelRequest = x := by
  unfold SamplePort.cancelRequest
  split
  · exact absurd ‹_› (h _ _)
  all_goals rfl

theorem SamplePort.cancelRequest_not_busy (x : SamplePort) (r : ConvRecord) (k : Nat) :
    x.cancelRequest.phase ≠ .busy r k := by
  unfold SamplePort.cancelRequest
  split <;> simp [*]

@[simp] theorem SamplePort.cancelRequest_idem (x : SamplePort) : x.cancelRequest.cancelRequest = x.cancelRequest :=
  SamplePort.cancelRequest_of_not_busy x.cancelRequest_not_busy

/-- A withdrawn conversion keeps its point (R92). -/
theorem SamplePort.cancelRequest_recordPoint (x : SamplePort) :
    x.cancelRequest.phase.record.map ConvRecord.point = x.phase.record.map ConvRecord.point := by
  unfold SamplePort.cancelRequest
  split <;> simp [Phase.record, *]

@[simp] theorem State.requestCancel_pt (s : State) (n : PointNo) : (s.requestCancel n).pt = s.pt := by
  unfold State.requestCancel; split <;> rfl

theorem State.requestCancel_port (s : State) (n : PointNo) (i : PortNo) :
    (s.requestCancel n).port i =
      if (s.pt n).inFlight = some i then (s.port i).cancelRequest else s.port i := by
  unfold State.requestCancel
  split
  · rename_i j hj
    rw [State.modPort_port, hj]
    by_cases e : j = i
    · subst e; simp
    · simp [e]
  · simp [*]

theorem State.requestCancel_frame (s : State) (n : PointNo) :
    s.requestCancel n = { s with ports := (s.requestCancel n).ports } := by
  unfold State.requestCancel; split <;> rfl

theorem State.foldl_requestCancel_port (l : List PointNo) (s : State) (i : PortNo) :
    (l.foldl State.requestCancel s).port i =
      if ∃ n ∈ l, (s.pt n).inFlight = some i then (s.port i).cancelRequest else s.port i := by
  induction l generalizing s with
  | nil => simp
  | cons a l ih =>
    simp only [List.foldl_cons, ih, State.requestCancel_pt, State.requestCancel_port, List.exists_mem_cons_iff]
    by_cases h : (s.pt a).inFlight = some i
    · simp [h]
    · simp [h]

theorem State.foldl_requestCancel_frame (l : List PointNo) (s : State) :
    l.foldl State.requestCancel s = { s with ports := (l.foldl State.requestCancel s).ports } := by
  induction l generalizing s with
  | nil => rfl
  | cons a l ih =>
    rw [List.foldl_cons]
    refine (ih (s.requestCancel a)).trans ?_
    rw [State.requestCancel_frame s a]

theorem mem_inFlightPoints {es : List Entry} {n : PointNo} : n ∈ inFlightPoints es ↔ ⟨n, .inFlight⟩ ∈ es := by
  simp only [inFlightPoints, List.mem_map, List.mem_filter, beq_iff_eq]
  constructor
  · rintro ⟨⟨m, out⟩, ⟨hm, rfl⟩, rfl⟩
    exact hm
  · exact fun h => ⟨_, ⟨h, rfl⟩, rfl⟩

theorem Entry.isOpen_iff (e : Entry) : e.isOpen = true ↔ e.outcome = .pending ∨ e.outcome = .inFlight := by
  simp [Entry.isOpen]

theorem cancelOpen_points (es : List Entry) : (cancelOpen es).map Entry.point = es.map Entry.point := by
  simp only [cancelOpen, List.map_map, List.map_inj_left, Function.comp_apply]
  intro e _
  split <;> rfl

/-- In-flight marks and the points of outstanding records name each other (R7). -/
def State.MarksAgree (s : State) : Prop := ∀ n i, (s.pt n).inFlight = some i ↔ s.recordPoint i = some n

theorem State.MarksAgree.of_same {s t : State} (hs : s.MarksAgree)
    (hpt : ∀ n, (t.pt n).inFlight = (s.pt n).inFlight) (hport : ∀ i, t.recordPoint i = s.recordPoint i) :
    t.MarksAgree := fun n i => by rw [hpt, hport]; exact hs n i

theorem State.recordPoint_of_busy {s : State} {i : PortNo} {r : ConvRecord} {k : Nat}
    (h : (s.port i).phase = .busy r k) : s.recordPoint i = some r.point := by
  simp [State.recordPoint, h, Phase.record]

/-- A withdrawal writes one list and the ports of its IN_FLIGHT entries (R73). -/
theorem State.withdraw_frame (s : State) (o : Origin) :
    s.withdraw o = { s with
      ports := (s.withdraw o).ports, scan := s.scan.setEntries o (cancelOpen (s.scan.entries o)) } := by
  unfold State.withdraw
  rw [State.foldl_requestCancel_frame]
  rfl

theorem State.withdraw_port (s : State) (o : Origin) (i : PortNo) :
    (s.withdraw o).port i =
      if ∃ n, ⟨n, .inFlight⟩ ∈ s.scan.entries o ∧ (s.pt n).inFlight = some i then (s.port i).cancelRequest
      else s.port i := by
  refine (State.foldl_requestCancel_port ..).trans ?_
  simp only [mem_inFlightPoints]

/-- The withdrawal of a list's open entries, where marks and records agree (R73, R92). -/
theorem State.withdraw_withdrawsTo {s : State} (hs : s.MarksAgree) (o : Origin) :
    s.WithdrawsTo (s.withdraw o) o := by
  refine ⟨?_, fun i => ⟨fun r k hp hin => ?_, fun hno => ?_⟩⟩
  · refine (s.withdraw_frame o).trans ?_
    simp only [cancelOpen, Entry.isOpen_iff]
  · have hmark := (hs r.point i).2 (State.recordPoint_of_busy hp)
    rw [State.withdraw_port, if_pos ⟨r.point, hin, hmark⟩, SamplePort.cancelRequest_busy hp]
  · rw [State.withdraw_port]
    split
    · rename_i h
      obtain ⟨n, hin, hmark⟩ := h
      refine SamplePort.cancelRequest_of_not_busy fun r k hp => ?_
      have hpoint := (State.recordPoint_of_busy hp).symm.trans ((hs n i).1 hmark)
      exact hno r k hp (Option.some.inj hpoint ▸ hin)
    · rfl

theorem State.withdraw_pt (s : State) (o : Origin) : (s.withdraw o).pt = s.pt := by
  rw [State.withdraw_frame]; rfl

theorem State.MarksAgree.withdraw {s : State} (hs : s.MarksAgree) (o : Origin) : (s.withdraw o).MarksAgree := by
  refine hs.of_same (fun n => by rw [State.withdraw_pt]) fun i => ?_
  unfold State.recordPoint
  rw [State.withdraw_port]
  split
  · exact (s.port i).cancelRequest_recordPoint
  · rfl

/-! ### Halts (R74) -/

theorem Point.promoted_inFlight (x : Point) : x.promoted.inFlight = x.inFlight := by
  unfold Point.promoted; split <;> rfl

theorem Point.aged_inFlight (x : Point) : x.aged.inFlight = x.inFlight := by
  unfold Point.aged; split <;> rfl

theorem SamplePort.supersedeRecord_recordPoint (x : SamplePort) :
    x.supersedeRecord.phase.record.map ConvRecord.point = x.phase.record.map ConvRecord.point := by
  obtain ⟨phase⟩ := x
  cases phase <;> rfl

theorem State.MarksAgree.promoteProfiles {s : State} (hs : s.MarksAgree) : s.promoteProfiles.MarksAgree := by
  obtain ⟨-, hpt, -⟩ := s.promoteProfiles_promotesTo
  refine hs.of_same (fun n => ?_) fun i => ?_
  · rw [hpt n, Point.promoted_inFlight]
  · unfold State.recordPoint
    rcases s.promoteProfiles_promotesTo.port i with h | h
    · rw [h, SamplePort.supersedeRecord_recordPoint]
    · rw [h]

theorem State.MarksAgree.passEnd {s : State} (hs : s.MarksAgree) (hd : (s.scan.active.map Entry.point).Nodup)
    (halted : Bool) : (s.passEnd halted).MarksAgree := by
  refine hs.promoteProfiles.of_same (fun n => ?_) fun i => ?_
  · simp only [State.passEnd, State.modScan_pt, State.ageEntries_eq]
    rw [State.agePoint_acts.foldl_pt hd]
    split
    · exact Point.aged_inFlight _
    · rfl
  · simp only [State.recordPoint, State.passEnd_port]

section

variable {s : State}

theorem State.haltRoutine_pass (h : s.scan.scanner = .pass) : s.haltRoutine = (s.withdraw .routine).passEnd true := by
  simp [State.haltRoutine, h]

theorem State.haltRoutine_gap (h : s.scan.scanner = .gap) : s.haltRoutine = s.promote.modScan Scan.goIdle := by
  simp [State.haltRoutine, h]

theorem State.haltRoutine_idle (h : s.scan.scanner = .idle) : s.haltRoutine = s.modScan Scan.goIdle := by
  simp [State.haltRoutine, h]

theorem State.withdraw_nodup (hd : (s.scan.active.map Entry.point).Nodup) :
    ((s.withdraw .routine).scan.active.map Entry.point).Nodup := by
  rw [State.withdraw_scan]
  exact (cancelOpen_points _).symm ▸ hd

theorem State.MarksAgree.haltRoutine (hs : s.MarksAgree) (hd : (s.scan.active.map Entry.point).Nodup) :
    s.haltRoutine.MarksAgree := by
  cases h : s.scan.scanner with
  | pass =>
    rw [State.haltRoutine_pass h]
    exact (hs.withdraw .routine).passEnd (State.withdraw_nodup hd) true
  | gap =>
    rw [State.haltRoutine_gap h]
    exact hs.promoteProfiles.of_same (fun n => by simp [State.promote])
      fun i => by simp [State.recordPoint, State.promote]
  | idle =>
    rw [State.haltRoutine_idle h]
    exact hs.of_same (fun _ => rfl) fun _ => rfl

theorem Scan.promoteList_prioActive (c : Scan) : c.promoteList.prioActive = c.prioActive := by
  unfold Scan.promoteList; split <;> rfl

theorem Scan.afterPass_prioActive (c : Scan) (halted : Bool) : (c.afterPass halted).prioActive = c.prioActive := by
  unfold Scan.afterPass
  split
  · rfl
  · split <;> rfl

/-- The routine side of a halt leaves a run in progress (R74). -/
theorem State.haltRoutine_prioActive (s : State) : s.haltRoutine.scan.prioActive = s.scan.prioActive := by
  cases h : s.scan.scanner with
  | pass =>
    rw [State.haltRoutine_pass h, State.passEnd_scan, Scan.afterPass_prioActive, State.withdraw_scan]
    exact Scan.promoteList_prioActive _
  | gap =>
    rw [State.haltRoutine_gap h]
    simp [State.promote, Scan.goIdle, Scan.promoteList_prioActive, State.promoteProfiles_scan]
  | idle => rw [State.haltRoutine_idle h]; rfl

/-- A promotion in GAP with the scanner going IDLE, block by block (R42, R50, R69, R74). -/
theorem State.promote_goIdle (s : State) {es : List Entry}
    (hnone : s.scan.staged = none → es = s.scan.active)
    (hsome : ∀ ns, s.scan.staged = some ns → es = ns.map fun n => ⟨n, .none⟩) :
    s.promote.modScan Scan.goIdle = { s.promoteProfiles with scan := { s.scan with
      scanner := .idle, stopRequested := false, late := false, periodTimer := none, staged := none
      active := es } } := by
  have hlist : s.scan.promoteList = { s.scan with active := es, staged := none } := by
    cases hs : s.scan.staged with
    | none => rw [Scan.promoteList_of_none hs, hnone hs]
    | some ns => rw [Scan.promoteList_of_some hs, hsome ns hs]
  simp only [State.promote, State.modScan, State.promoteProfiles_scan, hlist, Scan.goIdle]

/-- A halt, block by block (R74). -/
theorem State.halt_haltsTo (hs : s.MarksAgree) (hd : (s.scan.active.map Entry.point).Nodup) : s.HaltsTo s.halt := by
  refine ⟨s.haltRoutine, fun h => ⟨s.withdraw .routine, State.withdraw_withdrawsTo hs .routine, ?_⟩,
    fun h => ⟨s.promoteProfiles, s.promoteProfiles_promotesTo, ?_⟩, fun h => ?_, fun hrun => ?_, fun hrun => ?_⟩
  · rw [State.haltRoutine_pass h]
    exact State.passEnd_endsPassTo (State.withdraw_nodup hd) true
  · rw [State.haltRoutine_gap h]
    exact s.promote_goIdle (fun hnone => by rw [hnone]) fun ns hns => by rw [hns]
  · rw [State.haltRoutine_idle h]
    simp only [State.modScan, Scan.goIdle, ← h]
  · refine ⟨s.haltRoutine.withdraw .priority, State.withdraw_withdrawsTo (hs.haltRoutine hd) .priority, ?_⟩
    rw [State.halt_eq, State.abortRun, if_pos (s.haltRoutine_prioActive.trans hrun)]
    rfl
  · have : s.haltRoutine.scan.prioActive ≠ true := by simp [s.haltRoutine_prioActive, hrun]
    rw [State.halt_eq, State.abortRun, if_neg this]

end

/-- Settles O25: the halt runs in QUIET and ACTIVE, whatever the scanner state, and ends in IDLE. -/
theorem scanHaltEndsEverything : Obligations.ScanHaltEndsEverything := by
  intro p ps s ht hw hl ⟨⟨_, hd, _⟩, _⟩ ⟨hmarks, _⟩ _
  exact ⟨s.halt, State.halt_haltsTo hmarks hd,
    exec_row_answered ht (refusalOfMode_works hw) (decide_eq_true hl) rfl, s.halt_scan⟩

/-! ### SCAN_START, SCAN_STOP and SKIP_PASS (R63, R72, R73) -/

section

variable {ps : List Byte} {s : State}

theorem scanModeOf_eq_none {b : Byte} (h : 1 < b.toNat) : scanModeOf b = none := by
  have h0 : b ≠ 0x00#8 := by rintro rfl; simp at h
  have h1 : b ≠ 0x01#8 := by rintro rfl; simp at h
  simp [scanModeOf, h0, h1]

theorem scanModeOf_oneShot {b : Byte} (h : b.toNat = 0) : scanModeOf b = some .oneShot := by
  have : b = 0x00#8 := by bv_omega
  rw [this]; rfl

theorem scanModeOf_cyclic {b : Byte} (h : b.toNat = 1) : scanModeOf b = some .cyclic := by
  have : b = 0x01#8 := by bv_omega
  rw [this]; rfl

theorem scanStartRule_badParam (h : 1 < numAt ps 0) : scanStartRule ps s = refuse .badParam s := by
  rw [scanStartRule, scanModeOf_eq_none h]

theorem scanStartRule_busy {m : ScanMode} (hm : scanModeOf (byteAt ps 0) = some m) (h : s.scan.scanner ≠ .idle) :
    scanStartRule ps s = refuse .busy s := by
  rw [scanStartRule, hm]
  exact if_neg h

theorem scanStartRule_accepted {m : ScanMode} (hm : scanModeOf (byteAt ps 0) = some m)
    (h : s.scan.scanner = .idle) :
    scanStartRule ps s =
      accept (bytes16 s.scan.passCounter) (s.modScan fun c => (c.begin m).startPass).settle := by
  rw [scanStartRule, hm]
  exact if_pos h

theorem skipPassRule_badState (h : s.scan.scanner ≠ .pass) : skipPassRule s = refuse .badState s := if_neg h

theorem skipPassRule_accepted (h : s.scan.scanner = .pass) :
    skipPassRule s = accept (num16 (s.scan.active.countP Entry.isOpen)) (s.withdraw .routine).settle := if_pos h

theorem countP_isOpen (es : List Entry) :
    es.countP Entry.isOpen
      = (es.filter fun e => e.outcome = .pending ∨ e.outcome = .inFlight).length := by
  rw [List.countP_eq_length_filter]
  congr 2
  funext e
  rw [Bool.eq_iff_iff, Entry.isOpen_iff, decide_eq_true_eq]

end

/-- A scanner in IDLE stays there while the engine goes on with a run (R64). -/
theorem State.settle_idle {s : State} (h : s.scan.scanner = .idle) : s.settle.scan.scanner = .idle := by
  refine State.settle_induct (P := fun u => u.scan.scanner = .idle) (fun u t hm hu => ?_) h
  rcases State.engineMove_cases hm with
    ⟨hp, rfl⟩ | ⟨_, _, rfl⟩ | ⟨o, n, _, _, _, _, ⟨_, rfl⟩ | ⟨_, rfl⟩ | ⟨_, rfl⟩⟩
  · exact absurd (u.scan.passOver_iff.1 hp).1 (by simp [hu])
  · cases hr : u.scan.rerun <;> simpa [State.runEnd, Scan.startRun, hr] using hu
  all_goals exact (u.scan.setEntries_control ..).1.trans hu

/-- Settles O24: each command by scanner state, with the next state that its rule names before the engine goes
on. -/
theorem scanStartStopSkip : Obligations.ScanStartStopSkip := by
  intro p ps s
  refine ⟨fun ht hact hl => ?_, fun ht hw hl => ?_, fun ht hw hl => ?_⟩
  · have answers {st data t} := exec_row_answered (p := p) (st := st) (data := data) (t := t) ht
      (by rw [hact]; rfl) (decide_eq_true hl)
    refine ⟨fun h => answers (scanStartRule_badParam h), fun h hno => ?_, fun h hidle => answers ?_,
      fun h hidle => answers ?_⟩
    · obtain h | h : numAt ps 0 = 0 ∨ numAt ps 0 = 1 := by omega
      · exact answers (scanStartRule_busy (scanModeOf_oneShot h) hno)
      · exact answers (scanStartRule_busy (scanModeOf_cyclic h) hno)
    · exact scanStartRule_accepted (scanModeOf_oneShot h) hidle
    · refine (scanStartRule_accepted (scanModeOf_cyclic h) hidle).trans ?_
      simp only [State.modScan, Scan.begin, Scan.startInterval, Scan.startPass, Config.periodUnit,
        Nat.mul_comm _ 10]
      rfl
  · have answers {data t} (hstop : s.stopScan = t) (hdata : [scannerCode t.scan.scanner] = data) :
        exec (.scanStop p ps) s = .next (t.answered p .ok data) :=
      exec_row_answered ht (refusalOfMode_works hw) (decide_eq_true hl) (by rw [← hdata, ← hstop]; rfl)
    refine ⟨fun h => answers ?_ ?_, fun h => answers ?_ ?_, fun h => ?_⟩
    · simp [State.stopScan, h, State.modScan]
    · simp [h, scannerCode]
    · simp [State.stopScan, h]
    · simp [h, scannerCode]
    · have hstop : s.stopScan = (s.promote.modScan Scan.goIdle).settle := by simp [State.stopScan, h]
      have hidle : s.stopScan.scan.scanner = .idle := hstop ▸ State.settle_idle rfl
      refine ⟨s.promoteProfiles, s.promote.modScan Scan.goIdle, s.promoteProfiles_promotesTo,
        s.promote_goIdle (fun hnone => by rw [hnone]) (fun ns hns => by rw [hns]), answers hstop ?_⟩
      rw [← hstop, hidle]
      rfl
  · have answers {st data t} := exec_row_answered (p := p) (st := st) (data := data) (t := t) ht
      (refusalOfMode_works hw) (decide_eq_true hl)
    refine ⟨fun h => answers (skipPassRule_badState h), fun h ⟨hmarks, _⟩ _ =>
      ⟨s.withdraw .routine, State.withdraw_withdrawsTo hmarks .routine, answers ?_⟩⟩
    exact (skipPassRule_accepted h).trans (by rw [countP_isOpen]; rfl)

/-! ### ABORT_POINT (R75, R92) -/

section

variable {ps : List Byte} {s : State} {n : PointNo}

/-- The one conversion ABORT_POINT can withdraw, where marks and records agree. -/
theorem State.abortable_eq_some {i : PortNo} {r : ConvRecord} {k : Nat} (hs : s.MarksAgree)
    (hp : (s.port i).phase = .busy r k) (hn : r.point = n) (hin : ⟨n, .inFlight⟩ ∈ s.scan.entries r.origin) :
    s.abortable n = some (i, r) := by
  have hmark : (s.pt n).inFlight = some i := (hs n i).2 (hn ▸ State.recordPoint_of_busy hp)
  have hentry : ∃ e ∈ s.scan.entries r.origin, e.point = n ∧ e.outcome = .inFlight := ⟨_, hin, rfl, rfl⟩
  simpa [State.abortable, hmark, hp] using hentry

/-- Without a conversion in progress from an IN_FLIGHT entry there is none to withdraw. -/
theorem State.abortable_eq_none (hs : s.MarksAgree)
    (hno : ∀ i r k, (s.port i).phase = .busy r k → r.point = n → ⟨n, .inFlight⟩ ∉ s.scan.entries r.origin) :
    s.abortable n = none := by
  unfold State.abortable
  split
  · rfl
  · rename_i i hmark
    split
    · rename_i r k hp
      have hn : r.point = n :=
        Option.some.inj ((State.recordPoint_of_busy hp).symm.trans ((hs n i).1 hmark))
      refine if_neg fun hany => ?_
      obtain ⟨⟨m, out⟩, hin, he⟩ := List.any_eq_true.1 hany
      obtain ⟨rfl, rfl⟩ : m = n ∧ out = .inFlight := by simpa using he
      exact hno i r k hp hn hin
    all_goals rfl

theorem abortPointRule_accepted {i : PortNo} {r : ConvRecord} (hn : s.resolve (selectorAt ps 0) = .ok n)
    (ha : s.abortable n = some (i, r)) :
    abortPointRule ps s = accept [originCode r.origin, byteOf i.val]
      (((s.handOver r.origin n .cancelled).modPort i SamplePort.cancelRequest).settle) := by
  rw [abortPointRule, withPoint_ok hn, ha]

theorem abortPointRule_badState (hn : s.resolve (selectorAt ps 0) = .ok n) (ha : s.abortable n = none) :
    abortPointRule ps s = refuse .badState s := by
  rw [abortPointRule, withPoint_ok hn, ha]

end

/-- Settles O27: the mark names the one port whose record can be withdrawn. -/
theorem abortPointWithdrawsOneConversion : Obligations.AbortPointWithdrawsOneConversion := by
  intro p ps s n ht hw hl hn ⟨hmarks, _⟩
  have answers {st data t} := exec_row_answered (p := p) (st := st) (data := data) (t := t) ht
    (refusalOfMode_works hw) (decide_eq_true hl)
  refine ⟨fun i r k hp hr hin => answers ?_, fun hno =>
    answers (abortPointRule_badState hn (State.abortable_eq_none hmarks hno))⟩
  refine (abortPointRule_accepted hn (State.abortable_eq_some hmarks hp hr hin)).trans ?_
  have hcancel := SamplePort.cancelRequest_busy hp
  simp only [accept, State.modPort, show (s.handOver r.origin n .cancelled).port i = s.port i from rfl, hcancel]
  rfl

/-! ### Quiet entry and exit (R188, R190 to R192) -/

section

variable {s : State}

theorem State.withdraw_run (s : State) (o : Origin) : (s.withdraw o).run = s.run := by
  rw [State.withdraw_frame]

theorem State.haltRoutine_run (s : State) : s.haltRoutine.run = s.run := by
  cases h : s.scan.scanner with
  | pass =>
    rw [State.haltRoutine_pass h]
    exact (EngineKeeps.passEnd ..).run.trans (s.withdraw_run .routine)
  | gap =>
    rw [State.haltRoutine_gap h, State.modScan_run]
    exact (EngineKeeps.promote s).run
  | idle => rw [State.haltRoutine_idle h]; rfl

/-- A halt leaves run control as it is (R74). -/
theorem State.halt_run (s : State) : s.halt.run = s.run := by
  rw [State.halt_eq, State.abortRun]
  split
  · exact (s.haltRoutine.withdraw_run .priority).trans s.haltRoutine_run
  · exact s.haltRoutine_run

theorem SamplePort.cancelRequest_eq :
    SamplePort.cancelRequest = fun x => match x.phase with
      | .busy r _ => { x with
          phase := .cancelling { r with cancelled := true } r.timerLength
          sent := x.sent ++ [.cancel r.seq] }
      | _ => x := by
  funext x
  unfold SamplePort.cancelRequest
  cases x.phase <;> rfl

/-- A port neither BUSY nor CANCELLING is OFFLINE once it is ordered so (R102). -/
theorem SamplePort.orderOffline_of_free {x : SamplePort} (hb : ∀ r k, x.phase ≠ .busy r k)
    (hc : x.phase.isCancelling = false) : x.orderOffline = { x with phase := .offline } := by
  obtain ⟨phase⟩ := x
  cases phase with
  | busy r k => exact absurd rfl (hb r k)
  | cancelling => cases hc
  | offline | probing | idle | faulted => rfl

theorem State.withdrawAll_not_busy (s : State) (i : PortNo) (r : ConvRecord) (k : Nat) :
    (s.withdrawAll.port i).phase ≠ .busy r k := by
  have : s.withdrawAll.port i = (s.halt.port i).cancelRequest := Table.get_map ..
  rw [this]
  exact SamplePort.cancelRequest_not_busy _ _ _

/-- Quiet entry with a port CANCELLING waits in QUIESCING (R191, R192). -/
theorem State.enterQuiet_quiescing (h : ∃ i, (s.withdrawAll.port i).phase.isCancelling = true) :
    s.enterQuiet = s.withdrawAll.setMode .quiescing := if_pos ((Table.any_eq_true ..).2 h)

/-- Quiet entry with none goes QUIET with every port OFFLINE (R191, R192). -/
theorem State.enterQuiet_quiet (h : ∀ i, (s.withdrawAll.port i).phase.isCancelling = false) :
    s.enterQuiet =
      ({ s.withdrawAll with
        ports := s.withdrawAll.ports.map fun x => { x with phase := .offline } } : State).setMode .quiet := by
  have hany : (s.withdrawAll.ports.any fun x => x.phase.isCancelling) = false := (Table.any_eq_false ..).2 h
  have hports : s.withdrawAll.ports.map SamplePort.orderOffline
      = s.withdrawAll.ports.map fun x : SamplePort => ({ x with phase := .offline } : SamplePort) := by
    refine Table.ext_get fun i => ?_
    rw [Table.get_map, Table.get_map]
    exact SamplePort.orderOffline_of_free (s.withdrawAll_not_busy i) (h i)
  rw [State.enterQuiet, if_neg (by simp [hany]), State.goQuiet, hports]

theorem enterQuietRule_quiet (h : s.run.mode = .quiet) :
    enterQuietRule s = accept [0x00#8, 0x00#8] s := if_pos h

theorem enterQuietRule_busy (h : s.run.mode = .active) (hg : s.run.wakeGuard ≠ none) :
    enterQuietRule s = refuse .busy s := by
  rw [enterQuietRule, if_neg (by simp [h]), if_pos (Option.isSome_iff_ne_none.2 hg)]

theorem enterQuietRule_accepted (h : s.run.mode = .active) (hg : s.run.wakeGuard = none) :
    enterQuietRule s =
      accept [modeCode s.enterQuiet.run.mode, byteOf s.enterQuiet.cancellingPorts] s.enterQuiet := by
  rw [enterQuietRule, if_neg (by simp [h]), if_neg (by simp [hg])]

theorem exitQuietRule_active (h : s.run.mode = .active) : exitQuietRule s = accept [0x02#8, 0x00#8] s := by
  rw [exitQuietRule, if_neg (by simp [h]), h]
  rfl

theorem exitQuietRule_quiet (h : s.run.mode = .quiet) :
    exitQuietRule s = accept [modeCode s.exitQuiet.run.mode, byteOf s.enabledPorts] s.exitQuiet := if_pos h

theorem State.exitQuiet_active (h : ∀ i, (s.port i).enable = false) :
    s.enabledPorts = 0 ∧ s.exitQuiet = s.enterActive := by
  have hnone : s.enabledPorts = 0 := (Table.count_eq_zero ..).2 h
  exact ⟨hnone, if_pos hnone⟩

theorem State.exitQuiet_waking (h : ∃ i, (s.port i).enable = true) :
    s.exitQuiet = s.probeEnabled.setMode .waking := by
  refine if_neg fun hnone => ?_
  obtain ⟨i, hi⟩ := h
  exact Bool.false_ne_true (((Table.count_eq_zero ..).1 hnone i).symm.trans hi)

end

/-- Settles O46: quiet entry is the halt followed by a cancel request to every port, and the mode it goes to and
the exit's are told apart by the ports. -/
theorem quietEntryAndExit : Obligations.QuietEntryAndExit := by
  intro p s number
  refine ⟨fun ht => ⟨fun hm => ?_, fun hm hg => ?_, fun hm hg ⟨⟨_, hd, _⟩, _⟩ ⟨hmarks, _⟩ _ => ?_⟩,
    fun ht => ⟨fun hm => ?_, fun hm hno => ?_, fun hm hsome => ?_⟩⟩
  all_goals
    have answers {st data t} := exec_row_answered (p := p) (ps := []) (st := st) (data := data) (t := t) ht
      (by rw [hm]; rfl) rfl
  · exact answers (enterQuietRule_quiet hm)
  · exact answers (enterQuietRule_busy hm hg)
  · have hrule := enterQuietRule_accepted hm hg
    have hrun : s.withdrawAll.run = s.run := s.halt_run
    refine ⟨s.halt, s.withdrawAll, State.halt_haltsTo hmarks hd, ?_, fun h => answers ?_,
      fun h => answers ?_⟩
    · exact congrArg (fun f => { s.halt with ports := s.halt.ports.map f }) SamplePort.cancelRequest_eq
    · refine hrule.trans ?_
      rw [State.enterQuiet_quiescing h, State.cancellingPorts, Table.count_eq]
      simp only [State.setMode, hrun]
      rfl
    · refine hrule.trans ?_
      have hnone : s.enterQuiet.cancellingPorts = 0 := (Table.count_eq_zero ..).2 fun i => by
        rw [State.enterQuiet_quiet h]
        simp [State.setMode, Phase.isCancelling]
      rw [hnone, State.enterQuiet_quiet h]
      simp only [State.setMode, hrun]
      rfl
  · exact answers (exitQuietRule_active hm)
  · obtain ⟨hnone, hexit⟩ := State.exitQuiet_active hno
    refine answers ((exitQuietRule_quiet hm).trans ?_)
    rw [hnone, hexit]
    rfl
  · refine answers ((exitQuietRule_quiet hm).trans ?_)
    rw [State.exitQuiet_waking hsome, State.enabledPorts, Table.count_eq]
    rfl

end Sys2Proof.Machine

/-! SUPPORT. Sample ports and the mode table: what the scan engine and a halt do to one port, which rules and
events leave what the mode table speaks of, and the ends of probes and of conversions withdrawn. -/

namespace Sys2Proof.Machine

/-! ### What the scan engine does to one sample port (R45, R74, R89) -/

/-- A dispatch finds its port IDLE (R65). -/
theorem State.idle_of_examine_dispatched {s : State} {n : PointNo} (h : s.examine n = .dispatched) :
    (s.port (s.pt n).active.route.port).phase = .idle := by
  unfold State.examine at h
  split at h
  · cases hp : (s.port (s.pt n).active.route.port).phase with
    | idle => rfl
    | offline | probing | busy | cancelling | faulted => simp [hp] at h
  · cases h

/-- A property of sample ports that no move of the engine ends: neither the supersession of an outstanding record
nor the opening of a conversion on an IDLE port does. -/
structure SamplePort.EngineStable (Q : SamplePort → Prop) : Prop where
  supersedeRecord : ∀ x : SamplePort, Q x → Q x.supersedeRecord
  opened : ∀ (x : SamplePort) n r o, x.phase = .idle → Q x → Q (x.open n r o)

section

variable {Q : SamplePort → Prop} {s t : State} {i : PortNo}

theorem State.promoteProfiles_port_induct (hQ : ∀ x : SamplePort, Q x → Q x.supersedeRecord) (h : Q (s.port i)) :
    Q (s.promoteProfiles.port i) := by
  rcases s.promoteProfiles_promotesTo.port i with hi | hi
  · rw [hi]
    exact hQ _ h
  · rwa [hi]

theorem State.promote_port (s : State) : s.promote.port = s.promoteProfiles.port := State.modScan_port ..

theorem State.dispatch_port_induct {o : Origin} {n : PointNo} (hQ : SamplePort.EngineStable Q)
    (hn : s.examine n = .dispatched) (h : Q (s.port i)) : Q ((s.dispatch o n).port i) := by
  unfold State.dispatch
  rw [State.modPort_port]
  split
  · rename_i e
    subst e
    exact hQ.opened _ _ _ _ (State.idle_of_examine_dispatched hn) h
  · exact h

/-- One move of the engine keeps a property of a sample port that the engine does not end. -/
theorem State.engineMove_port_induct (hQ : SamplePort.EngineStable Q) (hm : s.engineMove = some t)
    (h : Q (s.port i)) : Q (t.port i) := by
  rcases State.engineMove_cases hm with
    ⟨_, rfl⟩ | ⟨_, _, rfl⟩ | ⟨o, n, _, _, _, _, ⟨_, rfl⟩ | ⟨_, rfl⟩ | ⟨hn, rfl⟩⟩
  · rw [State.passEnd_port]
    exact State.promoteProfiles_port_induct hQ.supersedeRecord h
  · exact h
  · exact h
  · exact h
  · exact State.dispatch_port_induct hQ hn h

/-- So does the engine's part of an event. -/
theorem State.settle_port_induct (hQ : SamplePort.EngineStable Q) (h : Q (s.port i)) : Q (s.settle.port i) :=
  State.settle_induct (P := fun u => Q (u.port i)) (fun _ _ => State.engineMove_port_induct hQ) h

theorem State.withdraw_port_induct (hQ : ∀ x : SamplePort, Q x → Q x.cancelRequest) (o : Origin)
    (h : Q (s.port i)) : Q ((s.withdraw o).port i) := by
  rw [State.withdraw_port]
  split
  · exact hQ _ h
  · exact h

/-- A halt acts on a sample port by cancel requests and by promotion alone (R74). -/
theorem State.halt_port_induct (hsupersede : ∀ x : SamplePort, Q x → Q x.supersedeRecord)
    (hcancel : ∀ x : SamplePort, Q x → Q x.cancelRequest) (h : Q (s.port i)) : Q (s.halt.port i) := by
  have hroutine : Q (s.haltRoutine.port i) := by
    cases hc : s.scan.scanner with
    | pass =>
      rw [State.haltRoutine_pass hc, State.passEnd_port]
      exact State.promoteProfiles_port_induct hsupersede (State.withdraw_port_induct hcancel _ h)
    | gap =>
      rw [State.haltRoutine_gap hc, State.modScan_port, State.promote_port]
      exact State.promoteProfiles_port_induct hsupersede h
    | idle =>
      rw [State.haltRoutine_idle hc]
      exact h
  rw [State.halt_eq, State.abortRun]
  split
  · exact State.withdraw_port_induct hcancel _ hroutine
  · exact hroutine

end

/-! ### A disabled port is OFFLINE (R85) -/

/-- A sample port whose enable is off is OFFLINE (R85). -/
def SamplePort.EnableLaw (x : SamplePort) : Prop := x.enable = false → x.phase = .offline

section

variable {x y : SamplePort}

theorem SamplePort.EnableLaw.of_enabled (h : x.enable = true) : x.EnableLaw :=
  fun hoff => absurd (h.symm.trans hoff) nofun

theorem SamplePort.EnableLaw.of_offline (h : x.phase = .offline) : x.EnableLaw := fun _ => h

theorem SamplePort.EnableLaw.enabled (h : x.EnableLaw) (hp : x.phase ≠ .offline) : x.enable = true :=
  (Bool.eq_false_or_eq_true _).resolve_right fun hoff => hp (h hoff)

/-- A port that was not OFFLINE may go to any state with its enable left on. -/
theorem SamplePort.EnableLaw.of_not_offline (h : x.EnableLaw) (hp : x.phase ≠ .offline) (hen : y.enable = x.enable) :
    y.EnableLaw := .of_enabled (hen.trans (h.enabled hp))

theorem SamplePort.EnableLaw.supersedeRecord (h : x.EnableLaw) : x.supersedeRecord.EnableLaw := by
  intro hoff
  simp [SamplePort.supersedeRecord, h hoff, Phase.mapRecord]

theorem SamplePort.EnableLaw.cancelRequest (h : x.EnableLaw) : x.cancelRequest.EnableLaw := by
  unfold SamplePort.cancelRequest
  split
  · rename_i hp
    exact h.of_not_offline (by simp [hp]) rfl
  all_goals exact h

theorem SamplePort.enableLaw_engineStable : SamplePort.EngineStable SamplePort.EnableLaw where
  supersedeRecord _ h := h.supersedeRecord
  opened _ _ _ _ hp h := h.of_not_offline (by simp [hp]) rfl

/-- A port holds a conversion exactly where it is BUSY or CANCELLING (R192). -/
theorem Phase.draining_eq_false_iff (ph : Phase) :
    ph.draining = false ↔ (∀ r k, ph ≠ .busy r k) ∧ ph.isCancelling = false := by
  cases ph <;> simp [Phase.draining, Phase.isCancelling]

/-- The order OFFLINE takes every port that holds no conversion (R102, R192). -/
theorem SamplePort.orderOffline_of_not_draining (h : x.phase.draining = false) :
    x.orderOffline = { x with phase := .offline } := by
  obtain ⟨hb, hc⟩ := x.phase.draining_eq_false_iff.1 h
  exact SamplePort.orderOffline_of_free hb hc

end

/-- A state whose ports are those of `s` but for port `i`. -/
theorem State.port_of_ports_set {s t : State} {i : PortNo} {x : SamplePort} (ht : t.ports = s.ports.set i x)
    (j : PortNo) : t.port j = if i = j then x else s.port j := by
  unfold State.port
  rw [ht, Table.get_set]

theorem State.EnableLaw.setPort {s t : State} {i : PortNo} {x : SamplePort} (hs : s.EnableLaw)
    (ht : t.ports = s.ports.set i x) (hx : x.EnableLaw) : t.EnableLaw := by
  intro j
  rw [State.port_of_ports_set ht]
  split
  · exact hx
  · exact hs j

/-- Where no pass and no run is in progress, the engine has no part in an event. -/
theorem State.settle_of_rests {s : State} (h : s.scan.Rests) : s.settle = s :=
  State.settle_of_settled (by simpa [State.Settled] using State.settled_of_rests h)

/-! ### The laws of the mode table (R85, R186, R189, R190, R192) -/

/-- The mode table, the wake guard's mode and the disabled ports OFFLINE: what every step keeps together. -/
structure State.ModeLaws (s : State) : Prop where
  mode : s.ModeLaw
  guard : s.GuardLaw
  enable : s.EnableLaw

/-- In ACTIVE only the disabled ports count. -/
theorem State.ModeLaws.of_active {s : State} (hm : s.run.mode = .active) (he : s.EnableLaw) : s.ModeLaws where
  mode := by simp [State.ModeLaw, hm]
  guard _ := hm
  enable := he

/-- In QUIET everything stands still and every port is OFFLINE. -/
theorem State.ModeLaws.of_quiet {s : State} (hm : s.run.mode = .quiet) (hg : s.run.wakeGuard = none)
    (hidle : s.scan.scanner = .idle) (hprio : s.scan.prioActive = false)
    (hp : ∀ i, (s.port i).phase = .offline) : s.ModeLaws where
  mode := by simp [State.ModeLaw, hm, hidle, hprio, hp]
  guard := by simp [State.GuardLaw, hg]
  enable i _ := hp i

section

variable {s : State} (h : s.ModeLaws)

include h

theorem State.ModeLaws.port (i : PortNo) : (s.port i).EnableLaw := h.enable i

theorem State.ModeLaws.scan_still (hm : s.run.mode ≠ .active) :
    s.scan.scanner = .idle ∧ s.scan.prioActive = false := h.mode.1 hm

theorem State.ModeLaws.offline_of_quiet (hm : s.run.mode = .quiet) (i : PortNo) :
    (s.port i).phase = .offline := h.mode.2.1 hm i

theorem State.ModeLaws.guard_stopped (hm : s.run.mode ≠ .active) : s.run.wakeGuard = none :=
  Classical.byContradiction fun hg => hm (h.guard hg)

theorem State.ModeLaws.still (hm : s.run.mode ≠ .active) : s.settle = s :=
  State.settle_of_rests (h.mode.rests hm)

/-- A port is BUSY in ACTIVE alone. -/
theorem State.ModeLaws.active_of_busy {i : PortNo} {r : ConvRecord} {k : Nat}
    (hp : (s.port i).phase = .busy r k) : s.run.mode = .active := by
  obtain ⟨-, hquiet, hwaking, hquiescing⟩ := h.mode
  cases hm : s.run.mode with
  | active => rfl
  | quiet => simp [hquiet hm i] at hp
  | waking => simpa [hp, Phase.draining] using ((hwaking hm).1 i).1
  | quiescing => simpa [hp, Phase.draining, Phase.isCancelling] using (hquiescing hm).1 i

/-- Outside ACTIVE a port is CANCELLING in QUIESCING alone. -/
theorem State.ModeLaws.quiescing_of_cancelling {i : PortNo} {r : ConvRecord} {k : Nat}
    (hp : (s.port i).phase = .cancelling r k) (hact : s.run.mode ≠ .active) : s.run.mode = .quiescing := by
  obtain ⟨-, hquiet, hwaking, -⟩ := h.mode
  cases hm : s.run.mode with
  | active => exact absurd hm hact
  | quiet => simp [hquiet hm i] at hp
  | waking => simpa [hp, Phase.draining] using ((hwaking hm).1 i).1
  | quiescing => rfl

/-- The engine's part of an event keeps the laws: outside ACTIVE it has no part, and in ACTIVE it enables and
disables no port. -/
theorem State.ModeLaws.settle : s.settle.ModeLaws := by
  by_cases hm : s.run.mode = .active
  · exact .of_active (by rw [State.settle_run, hm]) fun i =>
      State.settle_port_induct SamplePort.enableLaw_engineStable (h.port i)
  · rw [h.still hm]
    exact h

/-- An event at one port in ACTIVE, with the engine's part of it. -/
theorem State.ModeLaws.settle_setPort {t : State} {i : PortNo} {x : SamplePort} (hm : s.run.mode = .active)
    (hrun : t.run = s.run) (ht : t.ports = s.ports.set i x) (hx : x.EnableLaw) : t.settle.ModeLaws :=
  State.ModeLaws.settle (.of_active (hrun ▸ hm) (State.EnableLaw.setPort h.enable ht hx))

end

/-- An event at one port in any mode but QUIET, after which the port holds no conversion and, in WAKING and
QUIESCING, another port keeps the mode as it is. -/
theorem State.ModeLaws.setPort {s t : State} {i : PortNo} {x : SamplePort} (h : s.ModeLaws)
    (hrun : t.run = s.run) (hscan : t.scan = s.scan) (ht : t.ports = s.ports.set i x) (hx : x.EnableLaw)
    (hquiet : s.run.mode ≠ .quiet) (hd : x.phase.draining = false)
    (hwaking : s.run.mode = .waking → x.phase ≠ .faulted ∧ ∃ j, j ≠ i ∧ (s.port j).phase.isProbing = true)
    (hquiescing : s.run.mode = .quiescing → ∃ j, j ≠ i ∧ (s.port j).phase.isCancelling = true) :
    t.ModeLaws := by
  have hport := State.port_of_ports_set ht
  obtain ⟨hstill, -, hw, hq⟩ := h.mode
  refine ⟨⟨?_, ?_, ?_, ?_⟩, ?_, State.EnableLaw.setPort h.enable ht hx⟩
  · rwa [hrun, hscan]
  · rw [hrun]
    exact fun hm => absurd hm hquiet
  · rw [hrun]
    intro hm
    obtain ⟨hnot, j, hj, hprobing⟩ := hwaking hm
    refine ⟨fun l => ?_, j, by rwa [hport, if_neg hj.symm]⟩
    rw [hport]
    split
    · exact ⟨hd, hnot⟩
    · exact (hw hm).1 l
  · rw [hrun]
    intro hm
    obtain ⟨j, hj, hcancelling⟩ := hquiescing hm
    refine ⟨fun l => ?_, j, by rwa [hport, if_neg hj.symm]⟩
    rw [hport]
    split
    · exact fun hdrains => absurd (hd.symm.trans hdrains) nofun
    · exact (hq hm).1 l
  · unfold State.GuardLaw
    rw [hrun]
    exact h.guard

/-! ### What leaves the mode table (R85, R186) -/

/-! The states of R85 and their groups, told apart by the code a port reports. -/

theorem Phase.eq_offline_iff (x : Phase) : x = .offline ↔ phaseCode x = 0x00#8 := by
  cases x <;> simp [phaseCode]

theorem Phase.eq_faulted_iff (x : Phase) : x = .faulted ↔ phaseCode x = 0x05#8 := by
  cases x <;> simp [phaseCode]

theorem Phase.isProbing_eq (x : Phase) : x.isProbing = decide (phaseCode x = 0x01#8) := by
  cases x <;> rfl

theorem Phase.isCancelling_eq (x : Phase) : x.isCancelling = decide (phaseCode x = 0x04#8) := by
  cases x <;> rfl

theorem Phase.draining_eq (x : Phase) :
    x.draining = decide (phaseCode x = 0x03#8 ∨ phaseCode x = 0x04#8) := by
  cases x <;> rfl

theorem Phase.not_probing_of_cancelling {x : Phase} (h : x.isCancelling = true) : x.isProbing = false := by
  rw [Phase.isCancelling_eq, decide_eq_true_eq] at h
  simp [Phase.isProbing_eq, h]

/-- From `s` to `t` the mode, the scanner, the run in progress, and the enable and state of every port stay, and
no wake guard starts. -/
structure State.KeepsModes (s t : State) : Prop where
  mode : t.run.mode = s.run.mode
  guard : s.run.wakeGuard = none → t.run.wakeGuard = none
  scanner : t.scan.scanner = s.scan.scanner
  prioActive : t.scan.prioActive = s.scan.prioActive
  enable : ∀ i, (t.port i).enable = (s.port i).enable
  phase : ∀ i, phaseCode (t.port i).phase = phaseCode (s.port i).phase

theorem State.ModeLaws.of_keepsModes {s t : State} (h : s.ModeLaws) (k : s.KeepsModes t) : t.ModeLaws where
  mode := by
    have hm := h.mode
    simp only [State.ModeLaw, ne_eq, Phase.eq_offline_iff, Phase.eq_faulted_iff, Phase.isProbing_eq,
      Phase.isCancelling_eq, Phase.draining_eq] at hm ⊢
    simpa only [k.mode, k.scanner, k.prioActive, k.phase] using hm
  guard hg := by
    rw [k.mode]
    exact h.guard fun hnone => hg (k.guard hnone)
  enable i hoff := by
    rw [k.enable] at hoff
    rw [Phase.eq_offline_iff, k.phase, ← Phase.eq_offline_iff]
    exact h.enable i hoff

section

variable {s t u : State}

/-- A step that leaves run control, the sample ports, the scanner and the run in progress. -/
theorem State.KeepsModes.of_eq (hrun : t.run = s.run) (hscanner : t.scan.scanner = s.scan.scanner)
    (hprio : t.scan.prioActive = s.scan.prioActive) (hport : t.port = s.port) : s.KeepsModes t :=
  ⟨by rw [hrun], fun h => by rwa [hrun], hscanner, hprio, fun i => by rw [hport], fun i => by rw [hport]⟩

theorem State.KeepsModes.refl (s : State) : s.KeepsModes s := .of_eq rfl rfl rfl rfl

theorem State.KeepsModes.trans (h : s.KeepsModes t) (k : t.KeepsModes u) : s.KeepsModes u where
  mode := k.mode.trans h.mode
  guard := k.guard ∘ h.guard
  scanner := k.scanner.trans h.scanner
  prioActive := k.prioActive.trans h.prioActive
  enable i := (k.enable i).trans (h.enable i)
  phase i := (k.phase i).trans (h.phase i)

theorem State.KeepsModes.modPort {i : PortNo} {f : SamplePort → SamplePort}
    (hen : (f (s.port i)).enable = (s.port i).enable)
    (hp : phaseCode (f (s.port i)).phase = phaseCode (s.port i).phase) : s.KeepsModes (s.modPort i f) := by
  refine ⟨rfl, id, rfl, rfl, fun j => ?_, fun j => ?_⟩
  all_goals
    rw [State.modPort_port]
    split
    · subst_vars; assumption
    · rfl

theorem State.ConditionMoves.keepsModes (h : s.ConditionMoves t) : s.KeepsModes t := by
  rw [h.frame]
  exact .of_eq rfl rfl rfl rfl

end

theorem SamplePort.supersedeRecord_phaseCode (x : SamplePort) :
    phaseCode x.supersedeRecord.phase = phaseCode x.phase := by
  unfold SamplePort.supersedeRecord
  cases x.phase <;> rfl

/-- A write of an active profile changes no port but by superseding its record (R45). -/
theorem State.keepsModes_writeActive (s : State) (n : PointNo) (pr : Profile) :
    s.KeepsModes (s.writeActive n pr) := by
  have hport (i : PortNo) : (s.writeActive n pr).port i = (s.port i).supersedeRecord
      ∨ (s.writeActive n pr).port i = s.port i := by
    rw [State.writeActive_port]
    exact ite_eq_or_eq ..
  have hframe := State.recordsMove_writeActive s n pr
  refine ⟨by rw [hframe], fun h => by rwa [hframe], by rw [hframe], by rw [hframe], fun i => ?_, fun i => ?_⟩
  · rcases hport i with h | h <;> rw [h]
    rfl
  · rcases hport i with h | h <;> rw [h]
    exact SamplePort.supersedeRecord_phaseCode _

theorem SamplePort.elapse_phaseCode (x : SamplePort) : phaseCode x.elapse.phase = phaseCode x.phase := by
  unfold SamplePort.elapse
  cases x.phase <;> rfl

/-- A tick runs down the timers alone (log entry 3). -/
theorem State.keepsModes_idle (s : State) : s.KeepsModes s.idle := by
  unfold State.idle
  split
  · exact .refl s
  · have hport (i : PortNo) : ({ s.elapse with pending := s.elapse.dueExpiries } : State).port i
        = (s.port i).elapse := Table.get_map ..
    refine ⟨rfl, fun h => ?_, rfl, rfl, fun i => ?_, fun i => ?_⟩
    · simp [State.elapse, h]
    · rw [hport]; rfl
    · rw [hport]; exact SamplePort.elapse_phaseCode _

theorem State.conditionMoves_ackEntry (s : State) (e : CondEntry) : s.ConditionMoves (s.ackEntry e) := by
  unfold State.ackEntry
  simp only
  split
  · exact (State.ConditionMoves.modCond ..).trans (State.conditionMoves_removeEntry ..)
  · exact .modCond ..

theorem State.conditionMoves_ackEntries (s : State) (es : List CondEntry) :
    s.ConditionMoves (es.foldl State.ackEntry s) := by
  induction es generalizing s with
  | nil => exact .refl s
  | cons e es ih => exact (s.conditionMoves_ackEntry e).trans (ih _)

theorem State.conditionMoves_retireEntry (s : State) (n : PointNo) : s.ConditionMoves (s.retireEntry n) := by
  unfold State.retireEntry
  split
  · exact (State.ConditionMoves.modCond ..).trans (State.conditionMoves_refill _)
  · exact .refl s

theorem State.keepsModes_unlink (s : State) (n : PointNo) : s.KeepsModes (s.unlink n) := by
  unfold State.unlink
  simp only
  split
  · exact .of_eq rfl rfl rfl rfl
  · split <;> exact .of_eq rfl rfl rfl rfl

/-! ### Rules of commands that leave the mode table -/

/-- What the checks of a selector keep and the rule on the point keeps, the command keeps. -/
theorem withPoint_keeps {P : State → Prop} {ps : List Byte} {i : Nat} {rule : PointNo → State → Answer × State}
    {s : State} (hs : P s) (h : ∀ n, P (rule n s).2) : P (withPoint ps i rule s).2 := by
  unfold withPoint
  split
  · exact hs
  · exact h _

theorem unlessHeld_keeps {P : State → Prop} {p : CmdPort} {n : PointNo} {rule : State → Answer × State}
    {s : State} (hs : P s) (h : P (rule s).2) : P (unlessHeld p n rule s).2 := by
  unfold unlessHeld
  split
  · exact hs
  · exact h

theorem accept_keepsModes {data : List Byte} {s t : State} (h : s.KeepsModes t) :
    s.KeepsModes (accept data t).2 := h

section

variable (p : CmdPort) (ps : List Byte) (s : State)

theorem defineRule_keepsModes : s.KeepsModes (defineRule ps s).2 := by
  unfold defineRule
  simp only
  split
  · exact .refl s
  split
  · exact .refl s
  split
  · exact .refl s
  · exact .of_eq rfl rfl rfl rfl

theorem readProfileRule_keepsModes : s.KeepsModes (readProfileRule ps s).2 :=
  withPoint_keeps (P := s.KeepsModes) (.refl s) fun n => by split <;> exact .refl s

theorem readValueRule_keepsModes : s.KeepsModes (readValueRule ps s).2 :=
  withPoint_keeps (P := s.KeepsModes) (.refl s) fun _ => .refl s

theorem readChangedRule_keepsModes : s.KeepsModes (readChangedRule p ps s).2 := by
  unfold readChangedRule
  simp only
  split
  · exact .refl s
  · exact .of_eq rfl rfl rfl rfl

theorem holdRule_keepsModes : s.KeepsModes (holdRule p ps s).2 :=
  withPoint_keeps (P := s.KeepsModes) (.refl s) fun n => by
    simp only
    split
    · exact .refl s
    refine unlessHeld_keeps (P := s.KeepsModes) (.refl s) ?_
    split
    · exact .of_eq rfl rfl rfl rfl
    split
    · exact .refl s
    · exact .of_eq rfl rfl rfl rfl

theorem releaseRule_keepsModes : s.KeepsModes (releaseRule p ps s).2 :=
  withPoint_keeps (P := s.KeepsModes) (.refl s) fun n => by
    split
    · exact .of_eq rfl rfl rfl rfl
    split
    · exact .of_eq rfl rfl rfl rfl
    · exact .refl s

theorem State.keepsModes_withRoutineList (es : List Entry) (ns : List PointNo) :
    s.KeepsModes (s.modScan fun c => c.withRoutineList es ns) := by
  rw [State.modScan_withRoutineList]
  split <;> exact .of_eq rfl rfl rfl rfl

theorem rlistInsertRule_keepsModes : s.KeepsModes (rlistInsertRule ps s).2 :=
  withPoint_keeps (P := s.KeepsModes) (.refl s) fun n => by
    simp only
    split
    · exact .refl s
    split
    · exact .refl s
    split
    · exact .refl s
    · simp only [accept, State.modScan, Scan.insertPoint_eq]
      exact s.keepsModes_withRoutineList _ _

theorem rlistRemoveRule_keepsModes : s.KeepsModes (rlistRemoveRule ps s).2 :=
  withPoint_keeps (P := s.KeepsModes) (.refl s) fun n => by
    split
    · simp only [accept, State.modScan, Scan.removePoint_eq]
      exact s.keepsModes_withRoutineList _ _
    · exact .refl s

theorem State.keepsModes_clearList : s.KeepsModes (s.modScan Scan.clearList) := by
  rw [Scan.clearList_eq]
  exact s.keepsModes_withRoutineList _ _

theorem plistSetRule_keepsModes : s.KeepsModes (plistSetRule ps s).2 := by
  unfold plistSetRule
  split
  · exact .refl s
  split
  · exact .refl s
  split
  · exact .refl s
  split
  · exact .of_eq rfl rfl rfl rfl
  · exact .refl s

theorem scanConfigRule_keepsModes : s.KeepsModes (scanConfigRule ps s).2 := by
  unfold scanConfigRule
  split
  · exact .refl s
  split
  · exact .refl s
  · exact .of_eq rfl rfl rfl rfl

theorem ackRule_keepsModes : s.KeepsModes (ackRule ps s).2 :=
  withPoint_keeps (P := s.KeepsModes) (.refl s) fun n => by
    split
    · exact .refl s
    · exact (s.conditionMoves_ackEntry _).keepsModes

theorem ackUptoRule_keepsModes : s.KeepsModes (ackUptoRule ps s).2 := by
  unfold ackUptoRule
  split
  · exact .refl s
  · exact (s.conditionMoves_ackEntries _).keepsModes

theorem condClearRule_keepsModes : s.KeepsModes (condClearRule ps s).2 :=
  withPoint_keeps (P := s.KeepsModes) (.refl s) fun n => by
    split
    · exact .refl s
    split
    · exact accept_keepsModes (s.conditionMoves_removeEntry n).keepsModes
    · exact .refl s

theorem portStatusRule_keepsModes : s.KeepsModes (portStatusRule ps s).2 := by
  unfold portStatusRule
  split
  · simp only [accept]
    split
    · exact .modPort rfl rfl
    · exact .refl s
  · exact .refl s

theorem clearFlagsRule_keepsModes : s.KeepsModes (clearFlagsRule ps s).2 := by
  unfold clearFlagsRule
  split
  · exact .refl s
  · exact .of_eq rfl rfl rfl rfl

theorem attnMaskRule_keepsModes : s.KeepsModes (attnMaskRule ps s).2 := by
  unfold attnMaskRule
  split
  · exact .refl s
  · exact .of_eq rfl rfl rfl rfl

end

/-! ### Rules of commands with the engine's part of the event -/

theorem accept_settle_modeLaws {data : List Byte} {s : State} (h : s.ModeLaws) :
    (accept data s.settle).2.ModeLaws := h.settle

/-- A conversion that can be withdrawn is outstanding at a BUSY port (R75). -/
theorem State.busy_of_abortable {s : State} {n : PointNo} {i : PortNo} {r : ConvRecord}
    (h : s.abortable n = some (i, r)) : ∃ k, (s.port i).phase = .busy r k := by
  unfold State.abortable at h
  split at h
  · cases h
  · split at h
    · split at h <;> cases h
      exact ⟨_, ‹_›⟩
    all_goals cases h

section

variable {p : CmdPort} {ps : List Byte} {s : State} (hs : s.ModeLaws)

include hs

theorem editRule_modeLaws : (editRule p ps s).2.ModeLaws :=
  withPoint_keeps (P := State.ModeLaws) hs fun n => unlessHeld_keeps (P := State.ModeLaws) hs <| by
    split
    · exact hs
    split
    · exact hs
    split
    · rename_i g _ _
      cases he : s.editIsStaged n with
      | true =>
        rw [State.acceptEdit_staged he]
        exact hs.of_keepsModes (.of_eq rfl rfl rfl rfl)
      | false =>
        rw [State.acceptEdit_active he]
        have hkeep : s.KeepsModes ((s.writeActive n ((s.pt n).active.write g)).bumpRevision n) :=
          (s.keepsModes_writeActive n _).trans (.of_eq rfl rfl rfl rfl)
        exact (hs.of_keepsModes hkeep).settle
    · exact hs

theorem lifecycleRule_modeLaws (before : PointState) (change : Point → Point) :
    (lifecycleRule p ps before change s).2.ModeLaws :=
  withPoint_keeps (P := State.ModeLaws) hs fun n => unlessHeld_keeps (P := State.ModeLaws) hs <| by
    split
    · have hkeep : s.KeepsModes ((s.modPt n change).bumpRevision n) := .of_eq rfl rfl rfl rfl
      exact (hs.of_keepsModes hkeep).settle
    · exact hs

theorem State.retirePoint_modeLaws (n : PointNo) : (s.retirePoint n).ModeLaws := by
  have hlists : s.KeepsModes (((s.unlink n).modPt n retiredRecord).modScan fun c => c.without n) :=
    (s.keepsModes_unlink n).trans (.of_eq rfl rfl rfl rfl)
  have hentry := hlists.trans (State.conditionMoves_retireEntry _ n).keepsModes
  have hrest (u : State) (hs : List HoldRecord) :
      u.KeepsModes ((((u.setHolds hs).forgetExpired .host n).forgetExpired .service n).unmark n) :=
    .of_eq rfl rfl rfl rfl
  exact (hs.of_keepsModes (hentry.trans (hrest _ _))).settle

theorem retireRule_modeLaws : (retireRule p ps s).2.ModeLaws :=
  withPoint_keeps (P := State.ModeLaws) hs fun n =>
    unlessHeld_keeps (P := State.ModeLaws) hs (State.retirePoint_modeLaws hs n)

/-- A rule that touches no sample port, in ACTIVE. -/
theorem State.ModeLaws.active_of_ports {t : State} (hm : s.run.mode = .active) (hrun : t.run = s.run)
    (hports : t.ports = s.ports) : t.ModeLaws :=
  .of_active (hrun ▸ hm) fun i => by
    unfold State.port
    rw [hports]
    exact hs.enable i

theorem scanStartRule_modeLaws (hm : s.run.mode = .active) : (scanStartRule ps s).2.ModeLaws := by
  unfold scanStartRule
  split
  · exact hs
  split
  · exact accept_settle_modeLaws (hs.active_of_ports hm rfl rfl)
  · exact hs

/-- What is not IDLE scans in ACTIVE. -/
theorem State.ModeLaws.active_of_scanner (hc : s.scan.scanner ≠ .idle) : s.run.mode = .active :=
  Classical.byContradiction fun hm => hc (hs.scan_still hm).1

theorem State.stopScan_modeLaws : s.stopScan.ModeLaws := by
  unfold State.stopScan
  split
  · exact hs.of_keepsModes (.of_eq rfl rfl rfl rfl)
  · rename_i hgap
    have hm := hs.active_of_scanner (by simp [hgap])
    have hrun : (s.promote.modScan Scan.goIdle).run = s.run := by
      rw [State.modScan_run, (EngineKeeps.promote s).run]
    have hgap : (s.promote.modScan Scan.goIdle).ModeLaws := .of_active (by rw [hrun, hm]) fun i => by
      rw [State.modScan_port, State.promote_port]
      exact State.promoteProfiles_port_induct (Q := SamplePort.EnableLaw)
        (fun _ => SamplePort.EnableLaw.supersedeRecord) (hs.port i)
    exact hgap.settle
  · exact hs

theorem State.EnableLaw.halt : s.halt.EnableLaw := fun i =>
  State.halt_port_induct (Q := SamplePort.EnableLaw) (fun _ => SamplePort.EnableLaw.supersedeRecord)
    (fun _ => SamplePort.EnableLaw.cancelRequest) (hs.port i)

/-- Outside ACTIVE a halt finds nothing to withdraw (R74). -/
theorem State.halt_keepsModes (hm : s.run.mode ≠ .active) : s.KeepsModes s.halt := by
  obtain ⟨hidle, hprio⟩ := hs.scan_still hm
  have hhalt : s.halt = s.modScan Scan.goIdle := by
    rw [State.halt_eq, State.haltRoutine_idle hidle]
    exact if_neg (by simp [Scan.goIdle, hprio])
  rw [hhalt]
  exact .of_eq rfl hidle.symm rfl rfl

theorem State.halt_modeLaws : s.halt.ModeLaws := by
  by_cases hm : s.run.mode = .active
  · exact .of_active (s.halt_run ▸ hm) (State.EnableLaw.halt hs)
  · exact hs.of_keepsModes (State.halt_keepsModes hs hm)

theorem skipPassRule_modeLaws : (skipPassRule s).2.ModeLaws := by
  unfold skipPassRule
  split
  · rename_i hpass
    have hm := hs.active_of_scanner (by simp [hpass])
    have hwithdrawn : (s.withdraw .routine).EnableLaw := fun i =>
      State.withdraw_port_induct (Q := SamplePort.EnableLaw) (fun _ => SamplePort.EnableLaw.cancelRequest)
        .routine (hs.port i)
    exact accept_settle_modeLaws (.of_active (s.withdraw_run .routine ▸ hm) hwithdrawn)
  · exact hs

theorem State.requestRun_modeLaws (hm : s.run.mode = .active) : s.requestRun.ModeLaws := by
  unfold State.requestRun
  split
  · split <;> exact hs.active_of_ports hm rfl rfl
  · exact State.ModeLaws.settle (hs.active_of_ports hm rfl rfl)

theorem abortPointRule_modeLaws : (abortPointRule ps s).2.ModeLaws :=
  withPoint_keeps (P := State.ModeLaws) hs fun n => by
    split
    · exact hs
    · rename_i i r ha
      obtain ⟨k, hp⟩ := State.busy_of_abortable ha
      exact hs.settle_setPort (hs.active_of_busy hp) rfl rfl (hs.port i).cancelRequest

end

/-! ### PORT_CONFIG and PORT_RESTORE (R97, R100, R101) -/

theorem portOf_eq_none {b : Byte} (h : 3 < b.toNat) : portOf b = none := dif_neg (by omega)

theorem portOf_eq_some {b : Byte} {i : PortNo} (h : i.val = b.toNat) : portOf b = some i := by
  have hlt : b.toNat < 4 := h ▸ i.isLt
  exact (dif_pos hlt).trans (congrArg some (Fin.ext h.symm))

section

variable {x : SamplePort} {m : Mode} {T : Nat}

theorem SamplePort.configured_off (h : x.phase.draining = false) :
    x.configured m false T = { x with enable := false, timeout := T, phase := .offline } :=
  SamplePort.orderOffline_of_not_draining (x := { x with enable := false, timeout := T }) h

theorem SamplePort.configured_probed (hx : x.enable = false) (hm : m = .active) (hp : x.phase = .offline) :
    x.configured m true T = ({ x with enable := true, timeout := T } : SamplePort).enterProbing := by
  simp [SamplePort.configured, hx, hm, hp]

theorem SamplePort.configured_on (h : ¬(x.enable = false ∧ m = .active ∧ x.phase = .offline)) :
    x.configured m true T = { x with enable := true, timeout := T } := by
  simp [SamplePort.configured, h]

theorem SamplePort.configured_enableLaw {on : Bool} (h : on = false → x.phase.draining = false) :
    (x.configured m on T).EnableLaw := by
  cases on with
  | false =>
    rw [SamplePort.configured_off (h rfl)]
    exact .of_offline rfl
  | true =>
    refine .of_enabled ?_
    by_cases hx : x.enable = false ∧ m = .active ∧ x.phase = .offline
    · obtain ⟨hoff, hact, hp⟩ := hx
      rw [SamplePort.configured_probed hoff hact hp]
      rfl
    · rw [SamplePort.configured_on hx]

/-- In QUIET no port is probed (R100). -/
theorem SamplePort.configured_quiet {on : Bool} (hp : x.phase = .offline) :
    (x.configured .quiet on T).phase = .offline := by
  cases on with
  | false => rw [SamplePort.configured_off (by simp [hp, Phase.draining])]
  | true => rw [SamplePort.configured_on (by simp), hp]

theorem SamplePort.restorable_iff :
    x.restorable = true ↔ x.enable = true ∧ (x.phase = .offline ∨ x.phase = .faulted) := by
  simp [SamplePort.restorable]

end

section

variable {ps : List Byte} {s : State} {i : PortNo}

theorem portConfigRule_badParam (h : 3 < numAt ps 0 ∨ 1 < numAt ps 1 ∨ numAt ps 2 = 0) :
    portConfigRule ps s = refuse .badParam s := by
  unfold portConfigRule
  split
  · rename_i hi hon
    rcases h with h | h | h
    · exact absurd (hi.symm.trans (portOf_eq_none h)) nofun
    · exact absurd (hon.symm.trans (flagOf_eq_none h)) nofun
    · exact if_pos h
  · rfl

theorem portConfigRule_busy (hi : i.val = numAt ps 0) (hT : numAt ps 2 ≠ 0)
    (hoff : flagOf (byteAt ps 1) = some false) (hp : (s.port i).phase.draining = true) :
    portConfigRule ps s = refuse .busy s := by
  rw [portConfigRule, portOf_eq_some hi, hoff]
  exact (if_neg hT).trans (if_pos ⟨rfl, hp⟩)

theorem portConfigRule_accepted {u : State} (hi : i.val = numAt ps 0) (hT : numAt ps 2 ≠ 0) {on : Bool}
    (hon : flagOf (byteAt ps 1) = some on) (hp : on = false → (s.port i).phase.draining = false)
    (hu : s.setPort i ((s.port i).configured s.run.mode on (numAt ps 2)) = u) :
    portConfigRule ps s = accept [phaseCode (u.settle.port i).phase] u.settle := by
  rw [portConfigRule, portOf_eq_some hi, hon, ← hu]
  exact (if_neg hT).trans (if_neg fun ⟨hoff, hd⟩ => Bool.false_ne_true ((hp hoff).symm.trans hd))

theorem portRestoreRule_badParam (h : 3 < numAt ps 0) : portRestoreRule ps s = refuse .badParam s := by
  rw [portRestoreRule, portOf_eq_none h]

theorem portRestoreRule_accepted (hi : i.val = numAt ps 0)
    (h : (s.port i).enable = true ∧ ((s.port i).phase = .offline ∨ (s.port i).phase = .faulted)) :
    portRestoreRule ps s = accept [] ((s.modPort i SamplePort.enterProbing).settle) := by
  rw [portRestoreRule, portOf_eq_some hi]
  exact if_pos (SamplePort.restorable_iff.2 h)

theorem portRestoreRule_badState (hi : i.val = numAt ps 0)
    (h : ¬((s.port i).enable = true ∧ ((s.port i).phase = .offline ∨ (s.port i).phase = .faulted))) :
    portRestoreRule ps s = refuse .badState s := by
  rw [portRestoreRule, portOf_eq_some hi]
  exact if_neg (SamplePort.restorable_iff.not.2 h)

end

/-- Settles O40: each rule answers with the first check that fails, or writes the one port as the table of R100
or the entry to PROBING gives it, before the engine's part. -/
theorem portConfigAndRestore : Obligations.PortConfigAndRestore := by
  intro p ps s put probed
  refine ⟨fun ht hw hl => ?_, fun ht hm hl => ?_⟩
  · have answers {st data t} := exec_row_answered (p := p) (st := st) (data := data) (t := t) ht
      (refusalOfMode_works hw) (decide_eq_true hl)
    refine ⟨fun h => answers (portConfigRule_badParam h), fun i hi hT => ?_⟩
    intro x on off done
    have hoff (h : numAt ps 1 = 0) : flagOf (byteAt ps 1) = some false := by
      rw [show byteAt ps 1 = 0x00#8 from BitVec.eq_of_toNat_eq h]
      rfl
    have hon (h : numAt ps 1 = 1) : flagOf (byteAt ps 1) = some true := by
      rw [show byteAt ps 1 = 0x01#8 from BitVec.eq_of_toNat_eq h]
      rfl
    refine ⟨fun h0 hp => answers (portConfigRule_busy hi hT (hoff h0) hp), fun h0 hp => answers ?_,
      fun h1 hx hact hp => answers ?_, fun h1 hx => answers ?_⟩
    · exact portConfigRule_accepted hi hT (hoff h0) (fun _ => hp)
        (congrArg (s.setPort i) (SamplePort.configured_off hp))
    · exact portConfigRule_accepted hi hT (hon h1) nofun
        (congrArg (s.setPort i) (SamplePort.configured_probed hx hact hp))
    · exact portConfigRule_accepted hi hT (hon h1) nofun
        (congrArg (s.setPort i) (SamplePort.configured_on hx))
  · have answers {st data t} := exec_row_answered (p := p) (st := st) (data := data) (t := t) ht
      (by rw [hm]; rfl) (decide_eq_true hl)
    refine ⟨fun h => answers (portRestoreRule_badParam h), fun i hi => ?_⟩
    exact ⟨fun h => answers (portRestoreRule_accepted hi h), fun h => answers (portRestoreRule_badState hi h)⟩

/-! ### Commands that move the mode or a sample port -/

/-- Every command that the mode admits in some modes alone is admitted in QUIET and ACTIVE at most (R187). -/
theorem works_of_admitted {m : Mode} (h : refusalOfMode .settledModes m = none) : m = .quiet ∨ m = .active := by
  cases m <;> simp_all [refusalOfMode]

theorem active_of_admitted {m : Mode} (h : refusalOfMode .activeOnly m = none) : m = .active := by
  cases m <;> simp_all [refusalOfMode]

/-- With no port BUSY or CANCELLING, the order OFFLINE to every port ends in QUIET (R192). -/
theorem State.goQuiet_modeLaws {u : State} (hg : u.run.wakeGuard = none) (hidle : u.scan.scanner = .idle)
    (hprio : u.scan.prioActive = false) (hp : ∀ i, (u.port i).phase.draining = false) : u.goQuiet.ModeLaws :=
  .of_quiet rfl hg hidle hprio fun i => by
    have hport : u.goQuiet.port i = (u.port i).orderOffline := Table.get_map ..
    rw [hport, SamplePort.orderOffline_of_not_draining (hp i)]

section

variable {p : CmdPort} {ps : List Byte} {s : State} (hs : s.ModeLaws)

include hs

theorem portConfigRule_modeLaws (hm : s.run.mode = .quiet ∨ s.run.mode = .active) :
    (portConfigRule ps s).2.ModeLaws := by
  unfold portConfigRule
  split
  · rename_i i on _ _
    split
    · exact hs
    split
    · exact hs
    · rename_i hfree
      refine accept_settle_modeLaws ?_
      rcases hm with hm | hm
      · obtain ⟨hidle, hprio⟩ := hs.scan_still (by simp [hm])
        refine .of_quiet hm (hs.guard_stopped (by simp [hm])) hidle hprio fun j => ?_
        have hoff := hs.offline_of_quiet hm
        rw [State.modPort_port, hm]
        split
        · exact SamplePort.configured_quiet (hoff i)
        · exact hoff j
      · refine .of_active hm (State.EnableLaw.setPort hs.enable rfl (SamplePort.configured_enableLaw fun hoff => ?_))
        simpa [hoff] using hfree
  · exact hs

theorem portRestoreRule_modeLaws (hm : s.run.mode = .active) : (portRestoreRule ps s).2.ModeLaws := by
  unfold portRestoreRule
  split
  · exact hs
  split
  · rename_i hx
    exact accept_settle_modeLaws (.of_active hm (State.EnableLaw.setPort hs.enable rfl
      (.of_enabled (SamplePort.restorable_iff.1 hx).1)))
  · exact hs

/-- Quiet entry from ACTIVE, with the wake guard stopped, ends in QUIESCING or in QUIET (R191, R192). -/
theorem State.enterQuiet_modeLaws (hg : s.run.wakeGuard = none) : s.enterQuiet.ModeLaws := by
  obtain ⟨hidle, hprio, -⟩ := s.halt_scan
  have hguard : s.withdrawAll.run.wakeGuard = none := by
    rw [show s.withdrawAll.run = s.run from s.halt_run, hg]
  have hport (i : PortNo) : s.withdrawAll.port i = (s.halt.port i).cancelRequest := Table.get_map ..
  have hbusy := s.withdrawAll_not_busy
  by_cases hc : ∃ i, (s.withdrawAll.port i).phase.isCancelling = true
  · rw [State.enterQuiet_quiescing hc]
    refine ⟨⟨fun _ => ⟨hidle, hprio⟩, nofun, nofun, fun _ => ⟨fun i => ?_, hc⟩⟩, fun h => absurd hguard h,
      fun i => ?_⟩
    · intro hd
      by_contra hno
      have hfree := (Phase.draining_eq_false_iff _).2 ⟨hbusy i, Bool.eq_false_iff.2 hno⟩
      exact Bool.false_ne_true (hfree.symm.trans hd)
    · rw [State.setMode_port, hport]
      exact SamplePort.EnableLaw.cancelRequest (State.EnableLaw.halt hs i)
  · have hc : ∀ i, (s.withdrawAll.port i).phase.isCancelling = false := by simpa using hc
    have hany : (s.withdrawAll.ports.any fun x => x.phase.isCancelling) = false := (Table.any_eq_false ..).2 hc
    rw [State.enterQuiet, if_neg (by simp [hany])]
    exact State.goQuiet_modeLaws hguard hidle hprio fun i =>
      (Phase.draining_eq_false_iff _).2 ⟨hbusy i, hc i⟩

theorem enterQuietRule_modeLaws : (enterQuietRule s).2.ModeLaws := by
  unfold enterQuietRule
  split
  · exact hs
  split
  · exact hs
  · rename_i hg
    exact State.enterQuiet_modeLaws hs (by simpa using hg)

/-- Quiet exit probes every enabled port, or enters ACTIVE where none is enabled (R188). -/
theorem State.exitQuiet_modeLaws (hm : s.run.mode = .quiet) : s.exitQuiet.ModeLaws := by
  by_cases hen : ∃ i, (s.port i).enable = true
  · rw [State.exitQuiet_waking hen]
    have hoff := hs.offline_of_quiet hm
    have hport (i : PortNo) : (s.probeEnabled.setMode .waking).port i
        = if (s.port i).enable then (s.port i).enterProbing else s.port i := Table.get_map ..
    refine ⟨⟨fun _ => hs.scan_still (by simp [hm]), nofun, fun _ => ⟨fun i => ?_, ?_⟩, nofun⟩,
      fun h => absurd (hs.guard_stopped (by simp [hm])) h, fun i => ?_⟩
    · rw [hport]
      split <;> simp [SamplePort.enterProbing, hoff i, Phase.draining]
    · obtain ⟨i, hi⟩ := hen
      exact ⟨i, by rw [hport, if_pos hi]; rfl⟩
    · rw [hport]
      split
      · exact SamplePort.EnableLaw.of_enabled (x := (s.port i).enterProbing) ‹_›
      · exact hs.port i
  · obtain ⟨-, hexit⟩ := State.exitQuiet_active (s := s) (by simpa using hen)
    rw [hexit]
    exact .of_active rfl hs.enable

theorem exitQuietRule_modeLaws : (exitQuietRule s).2.ModeLaws := by
  unfold exitQuietRule
  split
  · exact State.exitQuiet_modeLaws hs ‹_›
  · exact hs

end

theorem State.softReset_modeLaws (s : State) (p : CmdPort) : (s.softReset p).ModeLaws :=
  .of_quiet rfl rfl rfl rfl fun i => by
    have hport : (s.softReset p).port i = (s.port i).softReset := Table.get_map ..
    rw [hport]
    rfl

theorem initialState_modeLaws (high : Bool) (waiting : List Instr) : (initialState high waiting).ModeLaws :=
  .of_quiet rfl rfl rfl rfl fun i => by
    have hport : (initialState high waiting).port i = SamplePort.initial := Table.get_replicate ..
    rw [hport]
    rfl

/-! ### The end of a probe (R97, R98, R189, R190) -/

/-- A probe ends at port `i`, which becomes `x`; run control looks whether it was the last, and the engine goes
on. -/
def State.probeTo (s : State) (i : PortNo) (x : SamplePort) : State := ((s.setPort i x).probeEnded).settle

theorem State.receive_present {s : State} {i : PortNo} (cls : Fin 16) (hp : (s.port i).phase.isProbing = true) :
    s.receive i (.present cls) = s.probeTo i { s.port i with phase := .idle, cls := some cls, absent := false } := by
  unfold State.receive
  cases h : (s.port i).phase with
  | probing => rfl
  | offline | idle | busy | cancelling | faulted => simp [h, Phase.isProbing] at hp

theorem State.endProbe_eq (s : State) (i : PortNo) : s.endProbe i = s.probeTo i (s.port i).foundAbsent := rfl

section

variable {s : State} {i : PortNo} {x : SamplePort}

theorem State.probeTo_of_not_waking (h : s.run.mode ≠ .waking) : s.probeTo i x = (s.setPort i x).settle :=
  congrArg State.settle (if_neg fun hw => h hw.1)

/-- In WAKING the end of a probe that is not the last writes its port alone (R189). -/
theorem State.probeTo_of_others (hs : s.ModeLaw) (hm : s.run.mode = .waking)
    (h : ∃ j, j ≠ i ∧ (s.port j).phase.isProbing = true) : s.probeTo i x = s.setPort i x := by
  obtain ⟨j, hj, hprobing⟩ := h
  have hend : (s.setPort i x).probeEnded = s.setPort i x := if_neg fun hlast => by
    have hno := (Table.any_eq_false ..).1 hlast.2 j
    change ((s.setPort i x).port j).phase.isProbing = false at hno
    rw [State.setPort_port, if_neg hj.symm, hprobing] at hno
    cases hno
  rw [State.probeTo, hend]
  exact State.settle_of_rests (s := s.setPort i x) (State.ModeLaw.rests (s := s) hs (by simp [hm]))

/-- In WAKING the end of the last probe is the entry to ACTIVE (R189, R190). -/
theorem State.probeTo_last (hs : s.ModeLaw) (hm : s.run.mode = .waking) (hx : x.phase.isProbing = false)
    (h : ∀ j, j ≠ i → (s.port j).phase.isProbing = false) : s.probeTo i x = (s.setPort i x).enterActive := by
  have hend : (s.setPort i x).probeEnded = (s.setPort i x).enterActive :=
    if_pos ⟨hm, (Table.any_eq_false ..).2 fun j => by
      change ((s.setPort i x).port j).phase.isProbing = false
      rw [State.setPort_port]
      split
      · exact hx
      · exact h j (Ne.symm ‹_›)⟩
  rw [State.probeTo, hend]
  exact State.settle_of_rests (s := (s.setPort i x).enterActive) (State.ModeLaw.rests (s := s) hs (by simp [hm]))

/-- The end of a probe keeps the mode table (R189, R190). -/
theorem State.ModeLaws.probeTo (hs : s.ModeLaws) (hp : (s.port i).phase.isProbing = true)
    (hen : x.enable = (s.port i).enable) (hx : x.phase = .idle ∨ x.phase = .offline) :
    (s.probeTo i x).ModeLaws := by
  have hwas : (s.port i).phase ≠ .offline := by rintro h; simp [h, Phase.isProbing] at hp
  have hlaw : x.EnableLaw := (hs.port i).of_not_offline hwas hen
  obtain ⟨hprobes, hdrains, hfaulted⟩ :
      x.phase.isProbing = false ∧ x.phase.draining = false ∧ x.phase ≠ .faulted := by
    rcases hx with hx | hx <;> simp [hx, Phase.draining, Phase.isProbing]
  obtain ⟨-, -, -, hquiescing⟩ := hs.mode
  have hmove (hw : s.run.mode = .waking → ∃ j, j ≠ i ∧ (s.port j).phase.isProbing = true) :
      (s.setPort i x).ModeLaws := by
    refine hs.setPort rfl rfl rfl hlaw (fun hm => hwas (hs.offline_of_quiet hm i)) hdrains
      (fun hm => ⟨hfaulted, hw hm⟩) fun hm => ?_
    obtain ⟨-, j, hj⟩ := hquiescing hm
    refine ⟨j, ?_, hj⟩
    rintro rfl
    exact Bool.false_ne_true ((Phase.not_probing_of_cancelling hj).symm.trans hp)
  by_cases hm : s.run.mode = .waking
  · by_cases hother : ∃ j, j ≠ i ∧ (s.port j).phase.isProbing = true
    · rw [State.probeTo_of_others hs.mode hm hother]
      exact hmove fun _ => hother
    · rw [State.probeTo_last hs.mode hm hprobes (by simpa using hother)]
      exact .of_active rfl (State.EnableLaw.setPort hs.enable rfl hlaw)
  · rw [State.probeTo_of_not_waking hm]
    exact (hmove fun h => absurd h hm).settle

end

/-! ### The end of a conversion withdrawn (R93, R94, R192) -/

section

variable {s : State}

theorem State.drainEnded_of_not_quiescing (h : s.run.mode ≠ .quiescing) : s.drainEnded = s :=
  if_neg fun hq => h hq.1

theorem State.drainEnded_of_draining {j : PortNo} (h : (s.port j).phase.draining = true) : s.drainEnded = s :=
  if_neg fun hq => Bool.false_ne_true (((Table.any_eq_false ..).1 hq.2 j).symm.trans h)

theorem State.drainEnded_last (hm : s.run.mode = .quiescing) (h : ∀ j, (s.port j).phase.draining = false) :
    s.drainEnded = s.goQuiet := if_pos ⟨hm, (Table.any_eq_false ..).2 h⟩

/-- The end of a conversion withdrawn keeps the mode table (R192). -/
theorem State.ModeLaws.drained {u : State} {i : PortNo} {r : ConvRecord} {k : Nat} {x : SamplePort}
    (hs : s.ModeLaws) (hp : (s.port i).phase = .cancelling r k) (hrun : u.run = s.run) (hscan : u.scan = s.scan)
    (ht : u.ports = s.ports.set i x) (hen : x.enable = (s.port i).enable) (hd : x.phase.draining = false) :
    u.settle.drainEnded.ModeLaws := by
  have hlaw : x.EnableLaw := (hs.port i).of_not_offline (by simp [hp]) hen
  by_cases hm : s.run.mode = .active
  · rw [State.drainEnded_of_not_quiescing (by simp [hrun, hm])]
    exact hs.settle_setPort hm hrun ht hlaw
  have hm := hs.quiescing_of_cancelling hp hm
  have hrests : u.scan.Rests := hscan ▸ State.ModeLaw.rests hs.mode (by simp [hm])
  have hport := State.port_of_ports_set ht
  rw [State.settle_of_rests hrests]
  obtain ⟨hstill, -, -, hquiescing⟩ := hs.mode
  by_cases hother : ∃ j, j ≠ i ∧ (s.port j).phase.draining = true
  · obtain ⟨j, hj, hdrains⟩ := hother
    rw [State.drainEnded_of_draining (j := j) (by rwa [hport, if_neg hj.symm])]
    exact hs.setPort hrun hscan ht hlaw (by simp [hm]) hd (fun hw => absurd (hm.symm.trans hw) nofun)
      fun _ => ⟨j, hj, (hquiescing hm).1 j hdrains⟩
  · have hfree (j : PortNo) : (u.port j).phase.draining = false := by
      rw [hport]
      split
      · exact hd
      · exact Bool.eq_false_iff.2 fun hdrains => hother ⟨j, Ne.symm ‹_›, hdrains⟩
    obtain ⟨hidle, hprio⟩ := hstill (by simp [hm])
    rw [State.drainEnded_last (hrun ▸ hm) hfree]
    exact State.goQuiet_modeLaws (hrun ▸ hs.guard_stopped (by simp [hm])) (hscan ▸ hidle) (hscan ▸ hprio) hfree

end

/-! ### A conversion that ends in BUSY (R90, R91) -/

section

variable {s : State} {i : PortNo} {r : ConvRecord}

/-- A result, taken or discarded, writes one sample port before the engine goes on, and leaves run control. -/
theorem State.takeResult_eq_settle (s : State) (i : PortNo) (r : ConvRecord) (code : BitVec 16) (range : RangeFlag) :
    ∃ u : State, s.takeResult i r code range = u.settle ∧ u.run = s.run
      ∧ u.ports = s.ports.set i { s.port i with phase := .idle, timeoutCount := 0 } := by
  by_cases hd : r.superseded = true ∨ (s.pt r.point).state ≠ .live
  · exact ⟨_, State.takeResult_discarded code range hd, rfl, rfl⟩
  · rw [not_or, not_ne_iff, Bool.not_eq_true] at hd
    refine ⟨_, State.takeResult_processed code range hd.1 hd.2, ?_⟩
    have hrun : (s.evaluatedEnd i r code range).run = s.run := by
      rw [State.evaluatedEnd, (State.conditionMoves_evaluate ..).frame]
      rfl
    rw [State.processResult_endedAs]
    split <;> exact ⟨hrun, s.evaluatedEnd_ports i r code range⟩

/-- A timeout writes one sample port before the engine goes on, and leaves run control (R91). -/
theorem State.takeTimeout_eq_settle (s : State) (i : PortNo) (r : ConvRecord) :
    ∃ u : State, s.takeTimeout i r = u.settle ∧ u.run = s.run
      ∧ u.ports = s.ports.set i ((s.port i).timedOut r) := by
  refine ⟨_, rfl, ?_⟩
  split <;> exact ⟨rfl, rfl⟩

end

/-! ### Transactions leave the mode table (R163, R164) -/

section

variable {s : State}

/-- A write on the SPI lines reaches the host port alone (R163). -/
theorem State.spiWrite_keepsModes (bytes : List Byte) : s.KeepsModes (s.spiWrite bytes) := by
  unfold State.spiWrite
  split
  · exact .refl s
  · split <;> exact .of_eq rfl rfl rfl rfl

theorem State.i2cWrite_keepsModes (address : BitVec 7) (bytes : List Byte) :
    s.KeepsModes (s.i2cWrite address bytes) := by
  unfold State.i2cWrite
  simp only
  split <;> exact .of_eq rfl rfl rfl rfl

theorem State.i2cRead_keepsModes (address : BitVec 7) : s.KeepsModes (s.i2cRead address) := by
  unfold State.i2cRead
  simp only
  split <;> exact .of_eq rfl rfl rfl rfl

end

/-! ### Messages of the converters (R90, R93, R96, R97) -/

section

variable {s : State} (hs : s.ModeLaws)

include hs

theorem State.receive_modeLaws (i : PortNo) (m : LinkRx) : (s.receive i m).ModeLaws := by
  have hstray : (s.modPort i SamplePort.stray).ModeLaws := hs.of_keepsModes (.modPort rfl rfl)
  have hrelease {r : ConvRecord} {k : Nat} (hp : (s.port i).phase = .cancelling r k) :
      (s.takeRelease i r).ModeLaws := by
    refine hs.drained (x := (s.port i).released) hp rfl rfl rfl rfl ?_
    unfold SamplePort.released
    split <;> rfl
  unfold State.receive
  split
  · rename_i r k hp
    split
    · obtain ⟨u, hu, hrun, hports⟩ := s.takeResult_eq_settle i r _ _
      rw [hu]
      exact hs.settle_setPort (hs.active_of_busy hp) hrun hports ((hs.port i).of_not_offline (by simp [hp]) rfl)
    · exact hstray
  · split
    · exact hrelease ‹_›
    · exact hstray
  · split
    · exact hrelease ‹_›
    · exact hstray
  · rename_i hp
    exact hs.probeTo (by simp [hp, Phase.isProbing]) rfl (.inl rfl)
  · exact hstray

/-! ### Timers (R64, R70, R71, R91, R94, R98) -/

theorem State.takeTimeout_modeLaws {i : PortNo} {r : ConvRecord} {k : Nat} (hp : (s.port i).phase = .busy r k) :
    (s.takeTimeout i r).ModeLaws := by
  obtain ⟨u, hu, hrun, hports⟩ := s.takeTimeout_eq_settle i r
  rw [hu]
  exact hs.settle_setPort (hs.active_of_busy hp) hrun hports ((hs.port i).of_not_offline (by simp [hp]) rfl)

theorem State.takeTick_modeLaws : s.takeTick.ModeLaws := by
  unfold State.takeTick
  simp only
  split
  · rename_i hgap
    exact State.ModeLaws.settle (hs.active_of_ports (hs.active_of_scanner (by simp [hgap])) rfl rfl)
  · exact hs.of_keepsModes (.of_eq rfl rfl rfl rfl)
  · exact hs.of_keepsModes (.of_eq rfl rfl rfl rfl)

/-! ### Every row of the table -/

theorem runCommand_modeLaws {c : Cmd} {p : CmdPort} {ps : List Byte} {own : State → Answer × State} {t : State}
    (ht : runCommand c p ps own s = .next t)
    (h : refusalOfMode (admissionOf c) s.run.mode = none → (own s).2.ModeLaws) : t.ModeLaws := by
  have hrespond (r : Answer × State) (hr : r.2.ModeLaws) : (respond p r).ModeLaws :=
    hr.of_keepsModes (.of_eq rfl rfl rfl rfl)
  rw [runCommand_eq] at ht
  cases ht
  split
  · refine hrespond _ ?_
    unfold checked
    split
    · exact hs
    · split
      · exact h ‹_›
      · exact hs
  · exact hs

theorem runCommand_keepsModes {c : Cmd} {p : CmdPort} {ps : List Byte} {own : State → Answer × State} {t : State}
    (ht : runCommand c p ps own s = .next t) (h : s.KeepsModes (own s).2) : t.ModeLaws :=
  runCommand_modeLaws hs ht fun _ => hs.of_keepsModes h

theorem onEvent_modeLaws {f : State → State} {t : State} (ht : onEvent f s = .next t) (h : (f s).ModeLaws) :
    t.ModeLaws := by
  rw [onEvent_eq] at ht
  cases ht
  split
  · exact hs
  · exact h

theorem execUnknownOpcode_modeLaws {p : CmdPort} {opcode : Byte} {ps : List Byte} {t : State}
    (ht : execUnknownOpcode p opcode ps s = .next t) : t.ModeLaws := by
  unfold execUnknownOpcode at ht
  split at ht <;> cases ht
  · exact hs.of_keepsModes (.of_eq rfl rfl rfl rfl)
  · exact hs

/-- The effect of every row of the table keeps the laws of the mode table. -/
theorem exec_modeLaws {c : Instr} {t : State} (ht : exec c s = .next t) : t.ModeLaws := by
  cases c with
  | define p ps => exact runCommand_keepsModes hs ht (defineRule_keepsModes ps s)
  | find p ps => exact runCommand_keepsModes hs ht (findRule_state ▸ .refl s)
  | readProfile p ps => exact runCommand_keepsModes hs ht (readProfileRule_keepsModes ps s)
  | readValue p ps => exact runCommand_keepsModes hs ht (readValueRule_keepsModes ps s)
  | edit p ps => exact runCommand_modeLaws hs ht fun _ => editRule_modeLaws hs
  | activate p ps => exact runCommand_modeLaws hs ht fun _ => lifecycleRule_modeLaws hs .draft activated
  | park p ps => exact runCommand_modeLaws hs ht fun _ => lifecycleRule_modeLaws hs .live parkedPoint
  | unpark p ps => exact runCommand_modeLaws hs ht fun _ => lifecycleRule_modeLaws hs .parked unparkedPoint
  | retire p ps => exact runCommand_modeLaws hs ht fun _ => retireRule_modeLaws hs
  | readChanged p ps => exact runCommand_keepsModes hs ht (readChangedRule_keepsModes p ps s)
  | hold p ps => exact runCommand_keepsModes hs ht (holdRule_keepsModes p ps s)
  | release p ps => exact runCommand_keepsModes hs ht (releaseRule_keepsModes p ps s)
  | rlistInsert p ps => exact runCommand_keepsModes hs ht (rlistInsertRule_keepsModes ps s)
  | rlistRemove p ps => exact runCommand_keepsModes hs ht (rlistRemoveRule_keepsModes ps s)
  | rlistClear p ps => exact runCommand_keepsModes hs ht s.keepsModes_clearList
  | rlistRead p ps => exact runCommand_keepsModes hs ht (rlistReadRule_state ▸ .refl s)
  | plistSet p ps => exact runCommand_keepsModes hs ht (plistSetRule_keepsModes ps s)
  | plistRead p ps => exact runCommand_keepsModes hs ht (plistReadRule_state ▸ .refl s)
  | scanStart p ps =>
    exact runCommand_modeLaws hs ht fun ha => scanStartRule_modeLaws hs (active_of_admitted ha)
  | scanStop p ps => exact runCommand_modeLaws hs ht fun _ => State.stopScan_modeLaws hs
  | scanHalt p ps => exact runCommand_modeLaws hs ht fun _ => State.halt_modeLaws hs
  | skipPass p ps => exact runCommand_modeLaws hs ht fun _ => skipPassRule_modeLaws hs
  | runPriority p ps =>
    exact runCommand_modeLaws hs ht fun ha => State.requestRun_modeLaws hs (active_of_admitted ha)
  | abortPoint p ps => exact runCommand_modeLaws hs ht fun _ => abortPointRule_modeLaws hs
  | scanConfig p ps => exact runCommand_keepsModes hs ht (scanConfigRule_keepsModes ps s)
  | scanStatus p ps => exact runCommand_keepsModes hs ht (.refl s)
  | condRead p ps => exact runCommand_keepsModes hs ht (condReadRule_state ▸ .refl s)
  | ack p ps => exact runCommand_keepsModes hs ht (ackRule_keepsModes ps s)
  | ackUpto p ps => exact runCommand_keepsModes hs ht (ackUptoRule_keepsModes ps s)
  | condClear p ps => exact runCommand_keepsModes hs ht (condClearRule_keepsModes ps s)
  | portConfig p ps =>
    exact runCommand_modeLaws hs ht fun ha => portConfigRule_modeLaws hs (works_of_admitted ha)
  | portRestore p ps =>
    exact runCommand_modeLaws hs ht fun ha => portRestoreRule_modeLaws hs (active_of_admitted ha)
  | portStatus p ps => exact runCommand_keepsModes hs ht (portStatusRule_keepsModes ps s)
  | status p ps => exact runCommand_keepsModes hs ht (.refl s)
  | clearFlags p ps => exact runCommand_keepsModes hs ht (clearFlagsRule_keepsModes ps s)
  | attnMask p ps => exact runCommand_keepsModes hs ht (attnMaskRule_keepsModes ps s)
  | identify p ps => exact runCommand_keepsModes hs ht (.refl s)
  | enterQuiet p ps => exact runCommand_modeLaws hs ht fun _ => enterQuietRule_modeLaws hs
  | exitQuiet p ps => exact runCommand_modeLaws hs ht fun _ => exitQuietRule_modeLaws hs
  | softReset p ps => exact runCommand_modeLaws hs ht fun _ => s.softReset_modeLaws p
  | unknownOpcode p opcode ps => exact execUnknownOpcode_modeLaws hs ht
  | commandFrame bus bytes =>
    unfold exec execCommandFrame at ht
    refine onEvent_modeLaws hs ht (hs.of_keepsModes ?_)
    cases bus with
    | spi => exact State.spiWrite_keepsModes bytes
    | i2c address => exact State.i2cWrite_keepsModes address bytes
  | fetch bus =>
    unfold exec execFetch at ht
    refine onEvent_modeLaws hs ht (hs.of_keepsModes ?_)
    cases bus with
    | spi => exact .of_eq rfl rfl rfl rfl
    | i2c address => exact State.i2cRead_keepsModes address
  | fetchEnd p delivered =>
    unfold exec execFetchEnd at ht
    exact onEvent_modeLaws hs ht (hs.of_keepsModes (.of_eq rfl rfl rfl rfl))
  | result i seq code range =>
    unfold exec execResult at ht
    exact onEvent_modeLaws hs ht (State.receive_modeLaws hs i _)
  | cancelAck i seq =>
    unfold exec execCancelAck at ht
    exact onEvent_modeLaws hs ht (State.receive_modeLaws hs i _)
  | present i cls =>
    unfold exec execPresent at ht
    exact onEvent_modeLaws hs ht (State.receive_modeLaws hs i _)
  | damagedMessage i burst =>
    unfold exec execDamagedMessage at ht
    exact onEvent_modeLaws hs ht (State.receive_modeLaws hs i _)
  | timeout i =>
    unfold exec execTimeout at ht
    refine onEvent_modeLaws hs ht ?_
    split
    · split
      · exact State.takeTimeout_modeLaws hs ‹_›
      · exact hs
    all_goals exact hs
  | cancelTimerExpiry i =>
    unfold exec execCancelTimerExpiry at ht
    refine onEvent_modeLaws hs ht ?_
    split
    · split
      · exact hs.drained (x := { s.port i with phase := .faulted }) ‹_› rfl rfl rfl rfl rfl
      · exact hs
    all_goals exact hs
  | probeTimerExpiry i =>
    unfold exec execProbeTimerExpiry at ht
    refine onEvent_modeLaws hs ht ?_
    split
    · rename_i hp
      split
      · rw [State.endProbe_eq]
        exact hs.probeTo (by simp [hp, Phase.isProbing]) rfl (.inr rfl)
      · exact hs
    all_goals exact hs
  | periodTick =>
    unfold exec execPeriodTick at ht
    refine onEvent_modeLaws hs ht ?_
    split
    · exact State.takeTick_modeLaws hs
    · exact hs
  | holdExpiry n =>
    unfold exec execHoldExpiry at ht
    refine onEvent_modeLaws hs ht ?_
    split
    · split
      · exact hs.of_keepsModes (.of_eq rfl rfl rfl rfl)
      · exact hs
    · exact hs
  | wakeGuardExpiry =>
    unfold exec execWakeGuardExpiry at ht
    refine onEvent_modeLaws hs ht ?_
    split
    · exact hs.of_keepsModes ⟨rfl, fun _ => rfl, rfl, rfl, fun _ => rfl, fun _ => rfl⟩
    · exact hs
  | ptrig =>
    unfold exec execPtrig at ht
    refine onEvent_modeLaws hs ht ?_
    split
    · rename_i h
      exact State.requestRun_modeLaws hs h.2
    · exact hs
  | powerOn high =>
    cases ht
    exact (initialState_modeLaws high s.pending).of_keepsModes (.of_eq rfl rfl rfl rfl)
  | resetN edge =>
    cases edge with
    | rise high =>
      cases ht
      exact (initialState_modeLaws high s.pending).of_keepsModes (.of_eq rfl rfl rfl rfl)
    | fall =>
      cases ht
      exact hs.of_keepsModes (.of_eq rfl rfl rfl rfl)

end

/-- Settles O52: a tick runs down timers alone, and the row of the front step keeps the laws by what it writes of
mode, scanner and sample ports. -/
theorem everyStepKeepsTheModeLaws : Obligations.EveryStepKeepsTheModeLaws := by
  intro s t hmode hguard henable ht
  have hs : s.ModeLaws := ⟨hmode, hguard, henable⟩
  have hnext : t.ModeLaws := by
    unfold step at ht
    split at ht
    · cases ht
      exact hs.of_keepsModes s.keepsModes_idle
    · rename_i c rest _
      have hqueue : s.KeepsModes { s with pending := rest } := .of_eq rfl rfl rfl rfl
      exact exec_modeLaws (hs.of_keepsModes hqueue) ht
  exact ⟨hnext.mode, hnext.guard, hnext.enable⟩

/-! ### Probe answers and expiries (R97 to R99) -/

section

variable {s : State} {i : PortNo} {x : SamplePort}

theorem exec_present (cls : Fin 16) (hr : s.heldInReset = false) (hp : (s.port i).phase.isProbing = true) :
    exec (.present i cls) s =
      .next (s.probeTo i { s.port i with phase := .idle, cls := some cls, absent := false }) := by
  rw [← State.receive_present cls hp]
  exact onEvent_out (f := fun s => s.receive i (.present cls)) hr

theorem exec_probeTimerExpiry (hr : s.heldInReset = false) (hp : (s.port i).phase = .probing 0) :
    exec (.probeTimerExpiry i) s =
      .next (s.probeTo i { s.port i with phase := .offline, cls := none, absent := true }) := by
  rw [show exec (.probeTimerExpiry i) s = _ from execProbeTimerExpiry_runOut hr hp, State.endProbe_eq]
  rfl

/-- The engine starts no probe. -/
theorem SamplePort.notProbing_engineStable : SamplePort.EngineStable fun x => x.phase.isProbing = false where
  supersedeRecord x h := by rwa [Phase.isProbing_eq, SamplePort.supersedeRecord_phaseCode, ← Phase.isProbing_eq]
  opened _ _ _ _ _ _ := rfl

/-- After the end of a probe no probe runs at its port (R99). -/
theorem State.probeTo_not_probing (hx : x.phase.isProbing = false) :
    ((s.probeTo i x).port i).phase.isProbing = false := by
  have hend : (s.setPort i x).probeEnded.port i = x := by
    unfold State.probeEnded
    split <;> exact Table.get_set_self ..
  exact State.settle_port_induct SamplePort.notProbing_engineStable (by rwa [hend])

end

/-- Settles O45: either end of a probe is `State.probeTo`, whose three cases are the mode and the other probes. -/
theorem probesEnd : Obligations.ProbesEnd := by
  intro i cls s k c hr
  refine ⟨execProbeTimerExpiry_none, fun hp => ?_, fun hp hc => ?_⟩
  · refine ⟨_, exec_present cls hr (by rw [hp]; rfl), execProbeTimerExpiry_none fun h => ?_⟩
    have hno := State.probeTo_not_probing (s := s) (i := i)
      (x := { s.port i with phase := .idle, cls := some cls, absent := false }) rfl
    simp [h, Phase.isProbing] at hno
  · intro ended u
    have hexec : exec c s = .next (s.probeTo i ended) := by
      rcases hc with rfl | ⟨rfl, rfl⟩
      · exact (exec_present cls hr (by rw [hp]; rfl)).trans (by simp [ended])
      · exact (exec_probeTimerExpiry hr hp).trans (by simp [ended])
    have hended : ended.phase.isProbing = false := by
      simp only [ended]
      split <;> rfl
    rw [hexec]
    refine ⟨fun hm => ?_, fun hm hlaw => ⟨fun hothers => ?_, fun hlast => ?_⟩⟩
    · rw [State.probeTo_of_not_waking hm]
      rfl
    · rw [State.probeTo_of_others hlaw hm hothers]
      rfl
    · rw [State.probeTo_last hlaw hm hended hlast]
      rfl

/-! ### Strays (R96, R204) -/

theorem seqOf_eq_some {b : Byte} {seq : Seq} (h : seqOf b = some seq) : b = seq.zeroExtend 8 := by
  unfold seqOf at h
  split at h <;> cases h
  apply BitVec.eq_of_toNat_eq
  simp
  omega

theorem classOf_eq_some {b : Byte} {cls : Fin 16} (h : classOf b = some cls) : b = byteOf cls.val := by
  unfold classOf at h
  split at h <;> cases h
  apply BitVec.eq_of_toNat_eq
  simp [byteOf]

/-- The range byte of a RESULT (R204). -/
def rangeByte : RangeFlag → Byte
  | .inRange => 0x00#8
  | .over => 0x01#8
  | .under => 0x02#8

theorem rangeOf_eq_some {b : Byte} {range : RangeFlag} (h : rangeOf b = some range) : b = rangeByte range := by
  unfold rangeOf at h
  split at h
  · cases h; assumption
  split at h
  · cases h; assumption
  split at h
  · cases h; assumption
  · cases h

/-- The two bytes of a 16-bit field are the bytes it was read from (R197). -/
theorem bytes16_word16 (hi lo : Byte) : bytes16 (word16 hi lo) = [hi, lo] := by
  have hhi : (hi ++ lo).extractLsb' 8 8 = hi := by
    ext i h
    rw [BitVec.getElem_extractLsb', BitVec.getLsbD_append]
    simp [BitVec.getLsbD_eq_getElem h]
  have hlo : (hi ++ lo).extractLsb' 0 8 = lo := by
    ext i h
    rw [BitVec.getElem_extractLsb', BitVec.getLsbD_append]
    simp [h]
  simp [bytes16, word16, hhi, hlo]

theorem closed_dropLast {l : List Byte} (h : l.getLast? = some (crc8 l.dropLast)) : closed l.dropLast = l :=
  List.dropLast_append_getLast? _ h

/-- Bytes that decode to an undamaged message are its burst (R204). -/
theorem closed_of_decodeMessage {l : List Byte} {m : LinkRx} (h : decodeMessage l = m) (hm : m ≠ .damaged) :
    closed l = linkRxBytes m := by
  unfold decodeMessage at h
  split at h
  · rename_i kind sq hi lo r
    split at h
    · rename_i hkind
      split at h
      · rename_i seq range hseq hrange
        subst h hkind
        rw [seqOf_eq_some hseq, rangeOf_eq_some hrange]
        cases range <;> simp [linkRxBytes, rangeByte, bytes16_word16]
      · exact absurd h.symm hm
    · exact absurd h.symm hm
  · rename_i kind b
    split at h
    · rename_i hkind
      split at h
      · rename_i seq hseq
        subst h hkind
        rw [seqOf_eq_some hseq]
        rfl
      · exact absurd h.symm hm
    split at h
    · rename_i hkind
      split at h
      · rename_i cls hcls
        subst h hkind
        rw [classOf_eq_some hcls]
        rfl
      · exact absurd h.symm hm
    · exact absurd h.symm hm
  · exact absurd h.symm hm

/-- A burst that is no undamaged message of a converter is damaged (R96, R204). -/
theorem decodeBurst_damaged {burst : List Byte} (h : ∀ m, m ≠ LinkRx.damaged → burst ≠ linkRxBytes m) :
    decodeBurst burst = .damaged := by
  unfold decodeBurst
  split
  · rename_i hcrc
    by_contra hm
    exact h _ hm ((closed_dropLast hcrc).symm.trans (closed_of_decodeMessage rfl hm))
  · rfl

section

variable {s : State} {i : PortNo}

theorem State.receive_result_stray {seq : Seq} (code : BitVec 16) (range : RangeFlag)
    (h : ∀ r k, (s.port i).phase = .busy r k ∨ (s.port i).phase = .cancelling r k → r.seq ≠ seq) :
    s.receive i (.result seq code range) = s.modPort i SamplePort.stray := by
  unfold State.receive
  cases hp : (s.port i).phase with
  | busy r k => exact if_neg (h r k (.inl hp)).symm
  | cancelling r k => exact if_neg (h r k (.inr hp)).symm
  | offline | probing | idle | faulted => rfl

theorem State.receive_cancelAck_stray {seq : Seq} (h : ∀ r k, (s.port i).phase = .cancelling r k → r.seq ≠ seq) :
    s.receive i (.cancelAck seq) = s.modPort i SamplePort.stray := by
  unfold State.receive
  cases hp : (s.port i).phase with
  | cancelling r k => exact if_neg (h r k hp).symm
  | offline | probing | idle | busy | faulted => rfl

theorem State.receive_present_stray (cls : Fin 16) (h : (s.port i).phase.isProbing = false) :
    s.receive i (.present cls) = s.modPort i SamplePort.stray := by
  unfold State.receive
  cases hp : (s.port i).phase with
  | probing => simp [hp, Phase.isProbing] at h
  | offline | idle | busy | cancelling | faulted => rfl

theorem State.receive_damaged (s : State) (i : PortNo) : s.receive i .damaged = s.modPort i SamplePort.stray := rfl

end

/-- Settles O43: a message is a stray by the state of its port, and a burst by its bytes. -/
theorem straysAreOnlyCounted : Obligations.StraysAreOnlyCounted := by
  intro i s hr stray
  have hexec {m : LinkRx} (h : s.receive i m = s.modPort i SamplePort.stray) :
      onEvent (fun s => s.receive i m) s = .next stray := (onEvent_out hr).trans (congrArg _ h)
  refine ⟨fun seq code range h => hexec (State.receive_result_stray code range h),
    fun seq h => hexec (State.receive_cancelAck_stray h), fun cls h => hexec (State.receive_present_stray cls h),
    fun burst h => ?_⟩
  exact hexec (by rw [decodeBurst_damaged h, State.receive_damaged])

/-! ### The attention output (R95, R143, R180, R182) -/

section

variable (s : State)

theorem State.unacked_iff : s.unacked = true ↔ ∃ e ∈ s.cond.list, e.acknowledged = false := by
  simp [State.unacked]

theorem State.overflow_iff : s.overflow = true ↔ ∃ n, (s.pt n).unlisted = true := Table.any_eq_true ..

theorem State.portFault_iff : s.portFault = true ↔ ∃ i, (s.port i).phase = .faulted :=
  (Table.any_eq_true ..).trans (exists_congr fun _ => beq_iff_eq)

/-- Each source stands at its bit (R202). -/
theorem State.sources_eq :
    s.sources = BitVec.ofBoolListLE [s.unacked, s.overflow, s.portFault, s.attn.overrun, s.attn.prioDone,
      s.attn.prioLost, s.attn.holdExpired] := by
  unfold State.sources
  generalize s.unacked = b0, s.overflow = b1, s.portFault = b2, s.attn.overrun = b3, s.attn.prioDone = b4,
    s.attn.prioLost = b5, s.attn.holdExpired = b6
  revert b0 b1 b2 b3 b4 b5 b6
  decide

end

/-- Two words meet exactly where they have a bit in common. -/
theorem and_ne_zero_iff {w : Nat} (x y : BitVec w) :
    x &&& y ≠ 0#w ↔ ∃ i < w, y.getLsbD i = true ∧ x.getLsbD i = true := by
  constructor
  · intro h
    by_contra hno
    refine h (BitVec.eq_of_getLsbD_eq fun i hi => ?_)
    simpa [and_comm] using fun hx hy => hno ⟨i, hi, hy, hx⟩
  · rintro ⟨i, -, hy, hx⟩ h
    have hbit := congrArg (BitVec.getLsbD · i) h
    simp [hx, hy] at hbit

/-- Settles O51: the sources are the seven bits of one word, and the output is low where it meets the mask. -/
theorem attentionFollowsTheSources : Obligations.AttentionFollowsTheSources := by
  intro s
  have hreset : s.heldInReset = false ↔ s.inReset = false ∧ s.poweringUp = false := by
    simp [State.heldInReset]
  have hlow : s.attnLow = true ↔ s.heldInReset = false ∧ s.sources &&& s.attn.mask ≠ 0#7 := by
    simp [State.attnLow]
  rw [hlow, hreset, and_assoc, and_ne_zero_iff, s.sources_eq]
  refine and_congr_right fun _ => and_congr_right fun _ => ?_
  simp only [BitVec.getLsbD_ofBoolListLE, Nat.exists_lt_succ_left, ← s.unacked_iff, ← s.overflow_iff,
    ← s.portFault_iff]
  simp

end Sys2Proof.Machine

/-! SUPPORT. The value unit: what scaling and smoothing give, and the statements about them. -/

namespace Sys2Proof.Machine

/-! ### Scaling (R106) -/

theorem saturate_mono {v w : Int} (h : v ≤ w) : saturate v ≤ saturate w :=
  max_le_max_left _ (min_le_min_left _ h)

theorem saturate_of_inEngRange {v : Int} (h : inEngRange v) : saturate v = v :=
  (congrArg (max Config.engMin) (min_eq_right h.2)).trans (max_eq_right h.1)

theorem scaled_eq (c : Scale) (code : BitVec 16) :
    scaled c code = saturate ((code.toNat * c.gain : Int) / 4096 + c.offset) := by
  rw [scaled, Int.fdiv_eq_ediv_of_nonneg _ (by decide)]

/-- The exact product fits a signed word of 32 bits (R106). -/
theorem product_bounds {g : Int} (code : BitVec 16) (hmin : -32768 ≤ g) (hmax : g ≤ 32767) :
    -2147450880 ≤ code.toNat * g ∧ code.toNat * g ≤ 2147385345 := by
  have hcode := code.isLt
  have hlow : (code.toNat : Int) * -32768 ≤ code.toNat * g := mul_le_mul_of_nonneg_left hmin (by omega)
  have hhigh : (code.toNat : Int) * g ≤ code.toNat * 32767 := mul_le_mul_of_nonneg_left hmax (by omega)
  omega

/-- A negative gain inverts the slope (R106). -/
theorem scaled_antitone {c : Scale} {code code' : BitVec 16} (hg : c.gain < 0) (hc : code.toNat ≤ code'.toNat) :
    scaled c code' ≤ scaled c code := by
  have hproduct : (code'.toNat * c.gain : Int) ≤ code.toNat * c.gain :=
    mul_le_mul_of_nonpos_right (Int.ofNat_le.mpr hc) hg.le
  rw [scaled_eq, scaled_eq]
  exact saturate_mono (Int.add_le_add_right (Int.ediv_le_ediv (by decide) hproduct) _)

/-- Settles O34: floored division is Euclidean division by 4096, and the bounds are those of the product. -/
theorem scalingFollowsTheRule : Obligations.ScalingFollowsTheRule := by
  refine ⟨fun c code hmin hmax hoffset => ?_, by decide, fun _ _ => rfl⟩
  have hproduct := product_bounds code hmin hmax
  refine ⟨scaled_eq c code, hproduct, by omega, fun hone => ?_, fun hzero => ?_,
    fun hneg _ => scaled_antitone hneg⟩
  · rw [hone]
    exact Int.mul_ediv_cancel _ (by decide)
  · rw [scaled_eq, hzero]
    simpa using saturate_of_inEngRange hoffset

/-! ### Smoothing (R107) -/

theorem smoothed_direct {c : Scale} {seeded : Bool} (h : c.weight = 0 ∨ seeded = false) (old v : Int) :
    smoothed c seeded old v = v := if_pos h

theorem smoothed_seeded {c : Scale} (h : c.weight ≠ 0) (old v : Int) :
    smoothed c true old v = old + (v - old) / 2 ^ c.weight.val := by
  rw [smoothed, if_neg (by simp [h]), Int.fdiv_eq_ediv_of_nonneg _ (Int.natCast_nonneg _)]
  norm_cast

/-- A floored part of a fall is at least the whole of it. -/
theorem le_ediv_of_nonpos {d m : Int} (hm : 0 < m) (hd : d ≤ 0) : d ≤ d / m :=
  (Int.le_ediv_iff_mul_le hm).mpr (mul_le_of_one_le_right hd hm)

/-- Settles O35: the step is the floored part of the difference, nonnegative and no more than it on the way up,
negative and no less than it on the way down. -/
theorem smoothingApproachesTheSample : Obligations.SmoothingApproachesTheSample := by
  intro c seeded old v
  refine ⟨fun h => smoothed_direct h old v, ?_, fun _ _ => ⟨rfl, rfl⟩⟩
  rintro hw rfl
  have hm : (0 : Int) < 2 ^ c.weight.val := by positivity
  rw [smoothed_seeded hw]
  generalize (2 : Int) ^ c.weight.val = m at hm
  refine ⟨rfl, fun hup => ?_, fun hdown => ?_, fun hfall => ?_, fun hup => ?_⟩
  · have hnonneg : 0 ≤ (v - old) / m := Int.ediv_nonneg (by omega) hm.le
    have hpart : (v - old) / m ≤ v - old := Int.ediv_le_self m (by omega)
    omega
  · have hpart : v - old ≤ (v - old) / m := le_ediv_of_nonpos hm (by omega)
    have hnonpos : (v - old) / m ≤ 0 := Int.ediv_nonpos_of_nonpos_of_neg (by omega) hm
    omega
  · have hneg : (v - old) / m < 0 := Int.ediv_neg_of_neg_of_pos (by omega) hm
    omega
  · calc
      old + (v - old) / m = old ↔ (v - old) / m = 0 := add_eq_left
      _ ↔ 0 ≤ v - old ∧ v - old < m := by simp [Int.ediv_eq_iff_of_pos hm]
      _ ↔ v - old < m := and_iff_right (by omega)

end Sys2Proof.Machine

/-! SUPPORT. The condition list: the entry of a point after each operation on the list, the laws of list, marks and
calm points as one invariant, which steps keep it, and the statements about bands, level changes and
acknowledgement. -/

namespace Sys2Proof.Machine

/-! ### The entry of a point (R119, R120) -/

section

variable {s : State} {n : PointNo}

theorem State.entryOf_eq_none : s.entryOf n = none ↔ ∀ e ∈ s.cond.list, e.point ≠ n := by
  simp [State.entryOf]

theorem State.entryOf_some {e : CondEntry} (h : s.entryOf n = some e) : e ∈ s.cond.list ∧ e.point = n :=
  ⟨List.mem_of_find?_eq_some h, by simpa using List.find?_some h⟩

/-- The one entry of a point is the one found (R120). -/
theorem State.entryOf_of_mem {e : CondEntry} (hd : (s.cond.list.map CondEntry.point).Nodup) (he : e ∈ s.cond.list) :
    s.entryOf e.point = some e := by
  cases hf : s.entryOf e.point with
  | none => exact absurd rfl (State.entryOf_eq_none.1 hf e he)
  | some f =>
    obtain ⟨hmem, hpoint⟩ := State.entryOf_some hf
    rw [List.inj_on_of_nodup_map hd hmem he hpoint]

theorem State.mem_points_iff : n ∈ s.cond.list.map CondEntry.point ↔ (s.entryOf n).isSome = true := by
  rw [← Option.ne_none_iff_isSome, Ne, State.entryOf_eq_none]
  simp

variable (s n) (m : PointNo)

theorem State.modEntry_entryOf {f : CondEntry → CondEntry} (hf : ∀ e, (f e).point = e.point) :
    (s.modEntry n f).entryOf m = if n = m then (s.entryOf m).map f else s.entryOf m := by
  have hpoint (e : CondEntry) : (if e.point = n then f e else e).point = e.point := by
    split <;> simp [hf]
  have hfind : (s.modEntry n f).entryOf m = (s.entryOf m).map fun e => if e.point = n then f e else e := by
    simp [State.entryOf, State.modEntry, List.find?_map, hpoint]
  rw [hfind]
  cases he : s.entryOf m with
  | none => simp
  | some e =>
    obtain ⟨-, rfl⟩ := State.entryOf_some he
    by_cases h : n = e.point
    · simp [h]
    · simp [h, Ne.symm h]

theorem State.createEntry_entryOf (level peak : Level) :
    (s.createEntry n level peak).entryOf m = (s.entryOf m).or
      (if n = m then some ⟨n, s.cond.raiseSeq + 1#32, level, peak, false, 0⟩ else none) := by
  simp only [State.entryOf, State.createEntry, State.modCond_cond, List.find?_append]
  by_cases h : n = m <;> simp [h]

theorem State.dropEntry_entryOf : (s.dropEntry n).entryOf m = if n = m then none else s.entryOf m := by
  by_cases h : n = m
  · subst h
    rw [if_pos rfl, State.entryOf_eq_none]
    simp [State.dropEntry]
  · simp only [State.entryOf, State.dropEntry, State.modCond_cond, List.find?_filter, if_neg h]
    congr 1
    funext e
    by_cases he : e.point = m
    · simp [he, Ne.symm h]
    · simp [he]

theorem State.modEntry_points {f : CondEntry → CondEntry} (hf : ∀ e, (f e).point = e.point) :
    (s.modEntry n f).cond.list.map CondEntry.point = s.cond.list.map CondEntry.point := by
  simp only [State.modEntry, State.modCond_cond, List.map_map, List.map_inj_left, Function.comp_apply]
  intro e _
  split <;> simp [hf]

theorem State.dropEntry_points :
    (s.dropEntry n).cond.list.map CondEntry.point = (s.cond.list.map CondEntry.point).filter fun m => m ≠ n := by
  simp [State.dropEntry, List.filter_map, Function.comp_def]

end

/-! ### The laws of the condition list as one invariant (R119, R120, R128, R130, R131) -/

/-- A record and its entry, if it has one: an entry repeats level and peak; without one a record carries a mark, where
`full` lets marks stand, or is calm (R8, R119, R128, R130). -/
def Point.Agrees (x : Point) (full : Prop) : Option CondEntry → Prop
  | some e => x.state.conditioned = true ∧ x.unlisted = false ∧ e.level = x.level ∧ e.peak = x.peak ∧ e.repeats ≤ 15
  | none => (x.unlisted = true → full ∧ x.state.conditioned = true)
      ∧ (x.unlisted = false → x.state.conditioned = true → x.level = .normal ∧ x.peak = .normal)

/-- A DRAFT record reads UNSCANNED at NORMAL (R8, R114). -/
def Point.DraftCalm (x : Point) : Prop :=
  x.state = .draft → x.quality = .unscanned ∧ x.level = .normal ∧ x.peak = .normal

/-- The laws of the condition list, the marks and the calm points, with `due` refills still to follow: none between
steps, one within a removal (R130, R133). -/
structure State.ConditionLaws (s : State) (due : Nat) : Prop where
  room : s.cond.list.length ≤ Config.conditionCapacity
  once : (s.cond.list.map CondEntry.point).Nodup
  agrees : ∀ n, (s.pt n).Agrees (s.cond.list.length + due = Config.conditionCapacity) (s.entryOf n)
  drafts : ∀ n, (s.pt n).DraftCalm

theorem State.conditionLaws_iff (s : State) :
    s.ConditionLaws 0 ↔ s.ConditionListLaw ∧ s.MarkLaw ∧ s.CalmLaw := by
  constructor
  · rintro ⟨hroom, honce, hagrees, hdrafts⟩
    have listed (e : CondEntry) (he : e ∈ s.cond.list) := s.entryOf_of_mem honce he ▸ hagrees e.point
    refine ⟨⟨hroom, honce, fun e he => ?_⟩, fun n hmark => ?_, hdrafts, fun n hcond hmark hnone => ?_⟩
    · obtain ⟨hcond, -, hlevel, hpeak, hrepeats⟩ := listed e he
      exact ⟨hcond, hlevel, hpeak, hrepeats⟩
    · have h := hagrees n
      cases he : s.entryOf n with
      | none =>
        rw [he] at h
        obtain ⟨hfull, hcond⟩ := h.1 hmark
        exact ⟨hfull, rfl, hcond⟩
      | some e =>
        rw [he] at h
        exact absurd (h.2.1.symm.trans hmark) nofun
    · exact (hnone ▸ hagrees n).2 hmark hcond
  · rintro ⟨⟨hroom, honce, hlisted⟩, hmarks, hdrafts, hcalm⟩
    refine ⟨hroom, honce, fun n => ?_, hdrafts⟩
    cases he : s.entryOf n with
    | none =>
      refine ⟨fun hmark => ?_, fun hmark hcond => hcalm n hcond hmark he⟩
      obtain ⟨hfull, -, hcond⟩ := hmarks n hmark
      exact ⟨hfull, hcond⟩
    | some e =>
      obtain ⟨hmem, rfl⟩ := State.entryOf_some he
      obtain ⟨hcond, hlevel, hpeak, hrepeats⟩ := hlisted e hmem
      refine ⟨hcond, Bool.eq_false_iff.2 fun hmark => ?_, hlevel, hpeak, hrepeats⟩
      obtain ⟨-, hnone, -⟩ := hmarks e.point hmark
      exact absurd (he.symm.trans hnone) nofun

theorem Point.Agrees.mono {x : Point} {full full' : Prop} {e : Option CondEntry} (h : x.Agrees full e)
    (hfull : x.unlisted = true → full → full') : x.Agrees full' e := by
  cases e with
  | none => exact ⟨fun hmark => (h.1 hmark).imp_left (hfull hmark), h.2⟩
  | some e => exact h

section

variable {s t : State} {n : PointNo} {due due' : Nat}

/-- A step at one point: the record and the entry of that point agree again, every other point keeps both, and
where another point is marked the list stays full but for the refills due. -/
theorem State.ConditionLaws.at_point (h : s.ConditionLaws due) (hpt : ∀ m, n ≠ m → t.pt m = s.pt m)
    (hentry : ∀ m, n ≠ m → t.entryOf m = s.entryOf m)
    (hfull : ∀ m, n ≠ m → (s.pt m).unlisted = true → s.cond.list.length + due = Config.conditionCapacity →
      t.cond.list.length + due' = Config.conditionCapacity)
    (hroom : t.cond.list.length ≤ Config.conditionCapacity) (honce : (t.cond.list.map CondEntry.point).Nodup)
    (hn : (t.pt n).Agrees (t.cond.list.length + due' = Config.conditionCapacity) (t.entryOf n))
    (hdraft : (t.pt n).DraftCalm) : t.ConditionLaws due' := by
  refine ⟨hroom, honce, fun m => ?_, fun m => ?_⟩
  · by_cases e : n = m
    · exact e ▸ hn
    · rw [hpt m e, hentry m e]
      exact (h.agrees m).mono (hfull m e)
  · by_cases e : n = m
    · exact e ▸ hdraft
    · rw [hpt m e]
      exact h.drafts m

/-- A record rewritten with the condition unit left as it is. -/
theorem State.ConditionLaws.setPt (h : s.ConditionLaws due) {x : Point}
    (hn : x.Agrees (s.cond.list.length + due = Config.conditionCapacity) (s.entryOf n)) (hdraft : x.DraftCalm) :
    (s.setPt n x).ConditionLaws due := by
  refine h.at_point (n := n) (fun m => s.setPt_pt_ne x) (fun _ _ => rfl) (fun _ _ _ => id) h.room h.once ?_ ?_
  · rw [State.setPt_pt_self]
    exact hn
  · rwa [State.setPt_pt_self]

/-- An entry rewritten together with the record of its point (R131, R135). -/
theorem State.ConditionLaws.modEntry (h : s.ConditionLaws due) {x : Point} {f : CondEntry → CondEntry}
    (hf : ∀ e, (f e).point = e.point) {e : CondEntry} (he : s.entryOf n = some e)
    (hn : x.Agrees (s.cond.list.length + due = Config.conditionCapacity) (some (f e))) (hdraft : x.DraftCalm) :
    ((s.modEntry n f).setPt n x).ConditionLaws due := by
  have hpoints : ((s.modEntry n f).setPt n x).cond.list.map CondEntry.point = s.cond.list.map CondEntry.point :=
    s.modEntry_points n hf
  have hlength : ((s.modEntry n f).setPt n x).cond.list.length = s.cond.list.length := by
    simpa using congrArg List.length hpoints
  have hentry (m : PointNo) : ((s.modEntry n f).setPt n x).entryOf m
      = if n = m then (s.entryOf m).map f else s.entryOf m := s.modEntry_entryOf n m hf
  refine h.at_point (n := n) (fun m e => State.setPt_pt_ne _ x e) (fun m e => ?_) (fun m e _ => ?_) ?_ ?_ ?_ ?_
  · rw [hentry, if_neg e]
  · rw [hlength]; exact id
  · rw [hlength]; exact h.room
  · rw [hpoints]; exact h.once
  · rw [hentry, if_pos rfl, he, hlength, State.setPt_pt_self]
    exact hn
  · rwa [State.setPt_pt_self]

/-- A new entry for a point without one, on a list with room; it takes the place of a refill where marks stand
(R127, R128, R130). -/
theorem State.ConditionLaws.createEntry (h : s.ConditionLaws due) {x : Point} (hnone : s.entryOf n = none)
    (hroom : s.cond.list.length < Config.conditionCapacity)
    (hdue : s.cond.list.length + due = Config.conditionCapacity → due = 1)
    (hcond : x.state.conditioned = true) (hmark : x.unlisted = false) :
    ((s.createEntry n x.level x.peak).setPt n x).ConditionLaws 0 := by
  have hlength : ((s.createEntry n x.level x.peak).setPt n x).cond.list.length = s.cond.list.length + 1 := by
    simp [State.createEntry]
  have hentry (m : PointNo) := s.createEntry_entryOf n m x.level x.peak
  refine h.at_point (n := n) (fun m e => State.setPt_pt_ne _ x e) (fun m e => ?_) (fun m e _ hd => ?_) ?_ ?_ ?_ ?_
  · exact (hentry m).trans (by simp [e])
  · have := hdue hd
    omega
  · omega
  · have hnew : n ∉ s.cond.list.map CondEntry.point := by
      rw [State.mem_points_iff, hnone]
      nofun
    simpa [State.createEntry, List.nodup_append] using ⟨h.once, by simpa using hnew⟩
  · have hself := hentry n
    rw [hnone, Option.none_or, if_pos rfl] at hself
    rw [State.setPt_pt_self]
    exact hself ▸ ⟨hcond, hmark, rfl, rfl, Nat.zero_le 15⟩
  · rw [State.setPt_pt_self]
    intro hdraft
    simp [hdraft, PointState.conditioned] at hcond

/-- An entry that leaves the list, with a record that is calm without it: one refill is due (R130, R133). -/
theorem State.ConditionLaws.dropEntry (h : s.ConditionLaws 0) {x : Point} (hsome : (s.entryOf n).isSome = true)
    (hn : x.Agrees False none) (hdraft : x.DraftCalm) : ((s.dropEntry n).setPt n x).ConditionLaws 1 := by
  have hpoints : ((s.dropEntry n).setPt n x).cond.list.map CondEntry.point
      = (s.cond.list.map CondEntry.point).filter fun m => m ≠ n := s.dropEntry_points n
  have hlength : ((s.dropEntry n).setPt n x).cond.list.length + 1 = s.cond.list.length := by
    have hn := State.mem_points_iff.2 hsome
    have hshort := length_filter_ne_of_nodup h.once hn
    rw [← hpoints, List.length_map, List.length_map] at hshort
    have := List.length_pos_of_mem hn
    rw [List.length_map] at this
    omega
  have hentry (m : PointNo) : ((s.dropEntry n).setPt n x).entryOf m = if n = m then none else s.entryOf m :=
    s.dropEntry_entryOf n m
  have hroom := h.room
  refine h.at_point (n := n) (fun m e => State.setPt_pt_ne _ x e) (fun m e => ?_) (fun m e _ hd => ?_) ?_ ?_ ?_ ?_
  · rw [hentry, if_neg e]
  · omega
  · omega
  · rw [hpoints]
    exact h.once.filter _
  · rw [hentry, if_pos rfl, State.setPt_pt_self]
    exact hn.mono fun _ => False.elim
  · rwa [State.setPt_pt_self]

theorem State.refill_of_none (h : ∀ m, (s.pt m).unlisted = false) : s.refill = s := by
  unfold State.refill
  rw [(s.points.first_eq_none fun x => x.unlisted).2 h]

theorem State.refill_of_first {m : PointNo} (hm : (s.pt m).unlisted = true)
    (hfirst : ∀ k, k < m → (s.pt k).unlisted = false) :
    s.refill = (s.createEntry m (s.pt m).level (s.pt m).peak).modPt m fun x => { x with unlisted := false } := by
  unfold State.refill
  rw [(s.points.first_eq_some (fun x => x.unlisted) m).2 ⟨hm, hfirst⟩]

/-- Either no point is marked, or one is the lowest-numbered that is (R130). -/
theorem State.unmarked_or_first (s : State) : (∀ m, (s.pt m).unlisted = false)
    ∨ ∃ m, (s.pt m).unlisted = true ∧ ∀ k, k < m → (s.pt k).unlisted = false := by
  cases hf : s.points.first fun x => x.unlisted with
  | none => exact .inl ((Table.first_eq_none ..).1 hf)
  | some m => exact .inr ⟨m, (Table.first_eq_some ..).1 hf⟩

/-- The refill that is due restores the laws (R130). -/
theorem State.ConditionLaws.refill (h : s.ConditionLaws 1) : s.refill.ConditionLaws 0 := by
  rcases s.unmarked_or_first with hnone | ⟨m, hm, hfirst⟩
  · rw [State.refill_of_none hnone]
    exact ⟨h.room, h.once, fun n => (h.agrees n).mono fun hmark => absurd ((hnone n).symm.trans hmark) nofun, h.drafts⟩
  · rw [State.refill_of_first hm hfirst]
    have hagrees := h.agrees m
    cases he : s.entryOf m with
    | some e =>
      rw [he] at hagrees
      exact absurd (hagrees.2.1.symm.trans hm) nofun
    | none =>
      rw [he] at hagrees
      obtain ⟨hfull, hcond⟩ := hagrees.1 hm
      exact h.createEntry (x := { s.pt m with unlisted := false }) he (by omega) (fun _ => rfl) hcond rfl

/-- A removal before its refill: the entry is gone and the peak NORMAL (R133). -/
def State.withoutEntry (s : State) (n : PointNo) : State :=
  (s.dropEntry n).modPt n fun x => { x with peak := .normal }

theorem State.removeEntry_eq (s : State) (n : PointNo) : s.removeEntry n = (s.withoutEntry n).refill := rfl

/-- The removal of the entry of a point at NORMAL (R133). -/
theorem State.ConditionLaws.removeEntry (h : s.ConditionLaws 0) (hsome : (s.entryOf n).isSome = true)
    (hlevel : (s.pt n).level = .normal) : (s.removeEntry n).ConditionLaws 0 := by
  have hunmarked : (s.pt n).unlisted = false := by
    obtain ⟨e, he⟩ := Option.isSome_iff_exists.1 hsome
    exact (he ▸ h.agrees n).2.1
  have hdrop : (s.withoutEntry n).ConditionLaws 1 :=
    h.dropEntry (x := { s.pt n with peak := .normal }) hsome
      ⟨fun hmark => absurd (hunmarked.symm.trans hmark) nofun, fun _ _ => ⟨hlevel, rfl⟩⟩
      fun hdraft => ⟨(h.drafts n hdraft).1, hlevel, rfl⟩
  exact hdrop.refill

end

/-! ### Steps that leave the condition unit alone -/

/-- What such a step keeps of a record. -/
structure Point.KeepsCondition (x y : Point) : Prop where
  conditioned : y.state.conditioned = x.state.conditioned
  level : y.level = x.level
  peak : y.peak = x.peak
  unlisted : y.unlisted = x.unlisted
  draft : y.state = .draft → x.state = .draft ∧ (x.quality = .unscanned → y.quality = .unscanned)

theorem Point.KeepsCondition.refl (x : Point) : x.KeepsCondition x := ⟨rfl, rfl, rfl, rfl, fun h => ⟨h, id⟩⟩

theorem Point.KeepsCondition.trans {x y z : Point} (h : x.KeepsCondition y) (k : y.KeepsCondition z) :
    x.KeepsCondition z where
  conditioned := k.conditioned.trans h.conditioned
  level := k.level.trans h.level
  peak := k.peak.trans h.peak
  unlisted := k.unlisted.trans h.unlisted
  draft hz := by
    obtain ⟨hy, hyz⟩ := k.draft hz
    obtain ⟨hx, hxy⟩ := h.draft hy
    exact ⟨hx, hyz ∘ hxy⟩

/-- A record that keeps its state, its condition part and, in DRAFT, its quality. -/
theorem Point.KeepsCondition.of_state {x y : Point} (hstate : y.state = x.state) (hlevel : y.level = x.level)
    (hpeak : y.peak = x.peak) (hmark : y.unlisted = x.unlisted)
    (hquality : x.state = .draft → x.quality = .unscanned → y.quality = .unscanned) : x.KeepsCondition y where
  conditioned := congrArg _ hstate
  level := hlevel
  peak := hpeak
  unlisted := hmark
  draft hy := ⟨hstate ▸ hy, hquality (hstate ▸ hy)⟩

theorem Point.keepsCondition_withActive (x : Point) (pr : Profile) : x.KeepsCondition (x.withActive pr) :=
  .of_state rfl rfl rfl rfl fun _ hq => by simp [Point.withActive, hq]

theorem Point.keepsCondition_promoted (x : Point) : x.KeepsCondition x.promoted := by
  cases h : x.staged with
  | none => rw [Point.promoted_of_none h]; exact .refl x
  | some pr =>
    rw [Point.promoted_of_some h]
    have hstaged : x.KeepsCondition { x with staged := none } := .of_state rfl rfl rfl rfl fun _ => id
    exact hstaged.trans (Point.keepsCondition_withActive _ pr)

theorem Point.keepsCondition_aged (x : Point) : x.KeepsCondition x.aged := by
  unfold Point.aged
  split
  · rename_i hlive
    exact .of_state rfl rfl rfl rfl fun hdraft => by simp [hdraft] at hlive
  · exact .refl x

theorem Point.keepsCondition_graded {x : Point} (h : x.state.conditioned = true) (code : BitVec 16)
    (range : RangeFlag) : x.KeepsCondition (graded code range x) := by
  rw [graded_eq]
  have hdraft (hd : x.state = .draft) : False := by simp [hd, PointState.conditioned] at h
  split <;> exact .of_state rfl rfl rfl rfl fun hd => (hdraft hd).elim

/-- A step that leaves the list, the raise sequence and the condition part of every record. -/
structure State.KeepsConditions (s t : State) : Prop where
  cond : t.cond = s.cond
  record : ∀ n, (s.pt n).KeepsCondition (t.pt n)

section

variable {s t u : State}

/-- A step that leaves condition unit and records. -/
theorem State.KeepsConditions.of_eq (hcond : t.cond = s.cond) (hpt : t.pt = s.pt) : s.KeepsConditions t :=
  ⟨hcond, fun _ => hpt ▸ .refl _⟩

theorem State.KeepsConditions.refl (s : State) : s.KeepsConditions s := .of_eq rfl rfl

theorem State.KeepsConditions.trans (h : s.KeepsConditions t) (k : t.KeepsConditions u) : s.KeepsConditions u :=
  ⟨k.cond.trans h.cond, fun n => (h.record n).trans (k.record n)⟩

theorem State.KeepsConditions.modPt {n : PointNo} {f : Point → Point} (h : (s.pt n).KeepsCondition (f (s.pt n))) :
    s.KeepsConditions (s.modPt n f) := by
  refine ⟨rfl, fun m => ?_⟩
  rw [State.modPt_pt]
  split
  · subst_vars; exact h
  · exact .refl _

theorem State.KeepsConditions.modScan (s : State) (f : Scan → Scan) : s.KeepsConditions (s.modScan f) := .of_eq rfl rfl

theorem State.KeepsConditions.modPort (s : State) (i : PortNo) (f : SamplePort → SamplePort) :
    s.KeepsConditions (s.modPort i f) := .of_eq rfl rfl

theorem State.KeepsConditions.mark (s : State) (n : PointNo) : s.KeepsConditions (s.mark n) := .of_eq rfl rfl

theorem State.KeepsConditions.foldl {α : Type} {f : State → α → State}
    (hf : ∀ (s : State) a, s.KeepsConditions (f s a)) (l : List α) (s : State) : s.KeepsConditions (l.foldl f s) := by
  induction l generalizing s with
  | nil => exact .refl s
  | cons a l ih => exact (hf s a).trans (ih _)

theorem State.ConditionLaws.of_keeps {due : Nat} (h : s.ConditionLaws due) (k : s.KeepsConditions t) :
    t.ConditionLaws due := by
  obtain ⟨hroom, honce, hagrees, hdrafts⟩ := h
  refine ⟨k.cond ▸ hroom, k.cond ▸ honce, fun n => ?_, fun n hdraft => ?_⟩
  · obtain ⟨hcond, hlevel, hpeak, hmark, -⟩ := k.record n
    have hentry : t.entryOf n = s.entryOf n := by simp [State.entryOf, k.cond]
    have hn := hagrees n
    rw [hentry, k.cond]
    cases he : s.entryOf n with
    | none => simpa only [he, Point.Agrees, hcond, hlevel, hpeak, hmark] using hn
    | some e => simpa only [he, Point.Agrees, hcond, hlevel, hpeak, hmark] using hn
  · obtain ⟨-, hlevel, hpeak, -, hd⟩ := k.record n
    obtain ⟨hdraft, hquality⟩ := hd hdraft
    obtain ⟨hq, hl, hp⟩ := hdrafts n hdraft
    exact ⟨hquality hq, hlevel.trans hl, hpeak.trans hp⟩

end

/-! ### The scan engine leaves the condition unit alone -/

section

variable (s : State)

theorem State.keepsConditions_promoteProfiles : s.KeepsConditions s.promoteProfiles := by
  obtain ⟨-, hpt, -⟩ := s.promoteProfiles_promotesTo
  refine ⟨(EngineKeeps.promoteProfiles s).cond, fun n => ?_⟩
  rw [hpt n]
  exact (s.pt n).keepsCondition_promoted

theorem State.keepsConditions_promote : s.KeepsConditions s.promote :=
  s.keepsConditions_promoteProfiles.trans (.modScan ..)

theorem State.keepsConditions_agePoint (n : PointNo) : s.KeepsConditions (s.agePoint n) := by
  have haged : s.KeepsConditions (s.modPt n Point.aged) := .modPt (s.pt n).keepsCondition_aged
  rw [State.agePoint_eq]
  split
  · exact haged.trans (.mark ..)
  · exact haged

theorem State.keepsConditions_passEnd (halted : Bool) : s.KeepsConditions (s.passEnd halted) := by
  have hage (u : State) (es : List Entry) : u.KeepsConditions (u.ageEntries es) :=
    .foldl (f := fun (t : State) (e : Entry) => t.agePoint e.point) (fun t e => t.keepsConditions_agePoint e.point) es u
  exact ((s.keepsConditions_promoteProfiles.trans (hage _ _)).trans (.modScan ..)).trans (.modScan ..)

/-- A fault of a point that is not in DRAFT (R111). -/
theorem State.keepsConditions_faultPoint {n : PointNo} (h : (s.pt n).state = .live) :
    s.KeepsConditions (s.faultPoint n) := by
  have hquality : s.KeepsConditions (s.modPt n fun x => { x with quality := .portFault }) :=
    .modPt (.of_state rfl rfl rfl rfl fun hd => by simp [h] at hd)
  exact hquality.trans (.mark ..)

/-- Only a LIVE point is faulted at a cursor (R65). -/
theorem State.live_of_examine_faulted {n : PointNo} (h : s.examine n = .faulted) : (s.pt n).state = .live :=
  Classical.byContradiction fun hl => nomatch (State.examine_skipped hl).symm.trans h

theorem State.keepsConditions_dispatch (o : Origin) (n : PointNo) : s.KeepsConditions (s.dispatch o n) := by
  have hcursor : s.KeepsConditions (s.resolveAtCursor o .inFlight) := .modScan ..
  have hmark (u : State) (i : PortNo) : u.KeepsConditions (u.modPt n fun x => { x with inFlight := some i }) :=
    .modPt (.of_state rfl rfl rfl rfl fun _ => id)
  unfold State.dispatch
  exact (hcursor.trans (hmark ..)).trans (.modPort ..)

theorem State.keepsConditions_engineMove {s t : State} (h : s.engineMove = some t) : s.KeepsConditions t := by
  rcases State.engineMove_cases h with
    ⟨_, rfl⟩ | ⟨_, _, rfl⟩ | ⟨o, n, _, _, _, _, ⟨_, rfl⟩ | ⟨hf, rfl⟩ | ⟨_, rfl⟩⟩
  · exact s.keepsConditions_passEnd false
  · exact .of_eq rfl rfl
  · exact .of_eq rfl rfl
  · have hcursor : s.KeepsConditions (s.resolveAtCursor o .faulted) := .modScan ..
    exact hcursor.trans (State.keepsConditions_faultPoint _ (s.live_of_examine_faulted hf))
  · exact s.keepsConditions_dispatch o n

theorem State.keepsConditions_settle : s.KeepsConditions s.settle :=
  State.settle_induct (P := s.KeepsConditions)
    (fun _ _ hm h => h.trans (State.keepsConditions_engineMove hm)) (.refl s)

theorem State.keepsConditions_withdraw (o : Origin) : s.KeepsConditions (s.withdraw o) :=
  .of_eq (by rw [State.withdraw_frame]) (s.withdraw_pt o)

theorem State.keepsConditions_halt : s.KeepsConditions s.halt := by
  have hroutine : s.KeepsConditions s.haltRoutine := by
    unfold State.haltRoutine
    split
    · exact (s.keepsConditions_withdraw .routine).trans (State.keepsConditions_passEnd _ true)
    · exact s.keepsConditions_promote.trans (.modScan ..)
    · exact .of_eq rfl rfl
  rw [State.halt_eq, State.abortRun]
  split
  · exact hroutine.trans ((State.keepsConditions_withdraw _ .priority).trans (.modScan ..))
  · exact hroutine

end

/-- An event whose effect before the engine's part leaves the condition unit alone. -/
theorem State.KeepsConditions.settle {s t : State} (h : s.KeepsConditions t) : s.KeepsConditions t.settle :=
  h.trans t.keepsConditions_settle

theorem State.ConditionLaws.settle {s : State} {due : Nat} (h : s.ConditionLaws due) : s.settle.ConditionLaws due :=
  h.of_keeps s.keepsConditions_settle

/-! ### A level change, by entry and mark of its point (R125 to R132) -/

/-- A record whose level is taken, its candidate cleared (R125). -/
def Point.atLevel (x : Point) (new : Level) : Point :=
  { x with level := new, candidate := none, confirmCounter := 0 }

section

variable {s : State} {n : PointNo} {new : Level}

/-- The state in which the level of a listed point and its entry are taken, before a removal (R131). -/
def State.levelListed (s : State) (n : PointNo) (e : CondEntry) (new : Level) : State :=
  (s.modEntry n fun e => e.changed new).setPt n
    { (s.pt n).atLevel new with peak := if e.peak.rank < new.rank then new else (s.pt n).peak }

theorem State.levelChange_listed {e : CondEntry} (he : s.entryOf n = some e) :
    s.levelChange n new =
      if new = .normal ∧ (e.changed new).acknowledged = true ∧ (s.pt n).active.policy.cls = .notify then
        (s.levelListed n e new).removeEntry n
      else s.levelListed n e new := by
  have hentry : (s.modPt n fun x => { x with level := new, candidate := none, confirmCounter := 0 }).entryOf n
      = some e := he
  have hwrite : ((s.modPt n fun x => x.atLevel new).modEntry n fun e => e.changed new).modPt n
      (fun x => { x with peak := if e.peak.rank < new.rank then new else x.peak }) = s.levelListed n e new :=
    State.modPt_modPt (s.modEntry n fun e => e.changed new) n (fun x => x.atLevel new)
      fun x => { x with peak := if e.peak.rank < new.rank then new else x.peak }
  have hclass : ((s.modPt n fun x => x.atLevel new).pt n).active = (s.pt n).active := by
    rw [State.modPt_pt_self]
    rfl
  calc
    s.levelChange n new = (s.modPt n fun x => x.atLevel new).changeListed n e new := by
      simp only [State.levelChange, hentry]
      rfl
    _ = _ := by simp only [State.changeListed, hwrite, hclass]

section

variable (hnone : s.entryOf n = none)

include hnone

theorem State.levelChange_unentered :
    s.levelChange n new = if (s.pt n).unlisted then (s.modPt n fun x => x.atLevel new).changeMarked n new
      else (s.modPt n fun x => x.atLevel new).changeUnlisted n new := by
  have hentry : (s.modPt n fun x => { x with level := new, candidate := none, confirmCounter := 0 }).entryOf n
      = none := hnone
  simp only [State.levelChange, hentry, State.modPt_pt_self]
  rfl

/-! A marked point, by its class (R129). -/

theorem State.levelChange_marked_notify (hmark : (s.pt n).unlisted = true)
    (hcls : (s.pt n).active.policy.cls = .notify) :
    s.levelChange n .normal
      = s.setPt n { (s.pt n).atLevel .normal with unlisted := false, peak := .normal } := by
  have hclass : ((s.pt n).atLevel .normal).active.policy.cls = .notify := hcls
  simp only [State.levelChange_unentered hnone, hmark, State.changeMarked, State.modPt_pt_self, hclass, if_true,
    State.modPt_modPt]
  rfl

theorem State.levelChange_marked_latch (hmark : (s.pt n).unlisted = true)
    (hcls : (s.pt n).active.policy.cls = .latch) :
    s.levelChange n .normal = s.setPt n ((s.pt n).atLevel .normal) := by
  have hclass : ((s.pt n).atLevel .normal).active.policy.cls = .latch := hcls
  simp only [State.levelChange_unentered hnone, hmark, State.changeMarked, State.modPt_pt_self, hclass, if_true]
  rfl

theorem State.levelChange_marked_raised (hmark : (s.pt n).unlisted = true) (hnew : new ≠ .normal) :
    s.levelChange n new = s.setPt n { (s.pt n).atLevel new with peak := raisePeak (s.pt n).peak new } := by
  simp only [State.levelChange_unentered hnone, hmark, State.changeMarked, if_true, if_neg hnew, State.modPt_modPt]
  rfl

/-! A point without entry and mark (R128). -/

theorem State.levelChange_unlisted_normal (hmark : (s.pt n).unlisted = false) :
    s.levelChange n .normal = s.setPt n ((s.pt n).atLevel .normal) := by
  rw [State.levelChange_unentered hnone, hmark]
  rfl

theorem State.levelChange_unlisted_entered (hmark : (s.pt n).unlisted = false) (hnew : new ≠ .normal)
    (hroom : s.cond.list.length < Config.conditionCapacity) :
    s.levelChange n new = (s.createEntry n new new).setPt n { (s.pt n).atLevel new with peak := new } := by
  have hwrite : ((s.modPt n fun x => x.atLevel new).createEntry n new new).modPt n (fun x => { x with peak := new })
      = (s.createEntry n new new).setPt n { (s.pt n).atLevel new with peak := new } :=
    State.modPt_modPt (s.createEntry n new new) n (fun x => x.atLevel new) fun x => { x with peak := new }
  simp only [State.levelChange_unentered hnone, hmark, State.changeUnlisted, if_neg hnew, State.modPt_cond,
    if_pos hroom, hwrite]
  rfl

theorem State.levelChange_unlisted_full (hmark : (s.pt n).unlisted = false) (hnew : new ≠ .normal)
    (hfull : Config.conditionCapacity ≤ s.cond.list.length) :
    s.levelChange n new
      = s.setPt n { (s.pt n).atLevel new with unlisted := true, peak := raisePeak (s.pt n).peak new } := by
  simp only [State.levelChange_unentered hnone, hmark, State.changeUnlisted, if_neg hnew, State.modPt_cond,
    if_neg hfull.not_gt, State.modPt_modPt]
  rfl

end

end

/-! ### Level changes keep the laws (R125, R128 to R133) -/

theorem Point.draftCalm_of_conditioned {x : Point} (h : x.state.conditioned = true) : x.DraftCalm :=
  fun hdraft => by simp [hdraft, PointState.conditioned] at h

section

variable {s : State} {n : PointNo}

theorem State.ConditionLaws.levelListed (h : s.ConditionLaws 0) {e : CondEntry} (he : s.entryOf n = some e)
    (new : Level) : (s.levelListed n e new).ConditionLaws 0 := by
  obtain ⟨hcond, hmark, -, hpeak, hrepeats⟩ := he ▸ h.agrees n
  refine h.modEntry (f := fun e => e.changed new) (fun _ => rfl) he ⟨hcond, hmark, rfl, ?_, ?_⟩
    (Point.draftCalm_of_conditioned hcond)
  · simp only [CondEntry.changed, raisePeak, hpeak]
  · simp only [CondEntry.changed]
    split
    · exact Nat.min_le_left ..
    · exact hrepeats

theorem State.ConditionLaws.levelChange (h : s.ConditionLaws 0) (hcond : (s.pt n).state.conditioned = true)
    (new : Level) : (s.levelChange n new).ConditionLaws 0 := by
  have hagrees := h.agrees n
  have rewrite {x : Point} (hx : x.state = (s.pt n).state)
      (hn : x.Agrees (s.cond.list.length + 0 = Config.conditionCapacity) (s.entryOf n)) :
      (s.setPt n x).ConditionLaws 0 := h.setPt hn (Point.draftCalm_of_conditioned (hx ▸ hcond))
  cases he : s.entryOf n with
  | some e =>
    have hlisted := h.levelListed he new
    rw [State.levelChange_listed he]
    split
    · rename_i hremove
      refine hlisted.removeEntry ?_ (by simp [State.levelListed, Point.atLevel, hremove.1])
      have hentry : (s.levelListed n e new).entryOf n = _ :=
        s.modEntry_entryOf n n (f := fun e => e.changed new) fun _ => rfl
      rw [hentry, if_pos rfl, he]
      rfl
    · exact hlisted
  | none =>
    rw [he] at hagrees rewrite
    cases hmark : (s.pt n).unlisted with
    | true =>
      obtain ⟨hfull, -⟩ := hagrees.1 hmark
      by_cases hnew : new = .normal
      · subst hnew
        cases hcls : (s.pt n).active.policy.cls with
        | notify =>
          rw [State.levelChange_marked_notify he hmark hcls]
          exact rewrite rfl ⟨nofun, fun _ _ => ⟨rfl, rfl⟩⟩
        | latch =>
          rw [State.levelChange_marked_latch he hmark hcls]
          exact rewrite rfl ⟨fun _ => ⟨hfull, hcond⟩, fun hno => (nomatch hmark.symm.trans hno)⟩
      · rw [State.levelChange_marked_raised he hmark hnew]
        exact rewrite rfl ⟨fun _ => ⟨hfull, hcond⟩, fun hno => (nomatch hmark.symm.trans hno)⟩
    | false =>
      obtain ⟨-, hpeak⟩ := hagrees.2 hmark hcond
      by_cases hnew : new = .normal
      · subst hnew
        rw [State.levelChange_unlisted_normal he hmark]
        exact rewrite rfl ⟨fun hno => (nomatch hmark.symm.trans hno), fun _ _ => ⟨rfl, hpeak⟩⟩
      · rcases Nat.lt_or_eq_of_le h.room with hroom | hfull
        · rw [State.levelChange_unlisted_entered he hmark hnew hroom]
          exact h.createEntry (x := { (s.pt n).atLevel new with peak := new }) he hroom (by omega) hcond hmark
        · rw [State.levelChange_unlisted_full he hmark hnew hfull.ge]
          exact rewrite rfl ⟨fun _ => ⟨hfull, hcond⟩, nofun⟩

theorem State.ConditionLaws.evaluate (h : s.ConditionLaws 0) (hcond : (s.pt n).state.conditioned = true)
    (ind : Level) : (s.evaluate n ind).ConditionLaws 0 := by
  unfold State.evaluate
  simp only
  split
  · exact h.levelChange hcond ind
  · exact h.of_keeps (.modPt (.of_state rfl rfl rfl rfl fun _ => id))

theorem State.ConditionLaws.processResult (h : s.ConditionLaws 0) (hcond : (s.pt n).state.conditioned = true)
    (code : BitVec 16) (range : RangeFlag) : (s.processResult n code range).ConditionLaws 0 := by
  have hgraded := Point.keepsCondition_graded hcond code range
  have hlaws : (s.modPt n (graded code range)).ConditionLaws 0 := h.of_keeps (.modPt hgraded)
  have hevaluated : ((s.modPt n (graded code range)).evaluate n (indicatedBy code range (s.pt n))).ConditionLaws 0 :=
    hlaws.evaluate (by rw [State.modPt_pt_self, hgraded.conditioned, hcond]) _
  unfold State.processResult
  simp only
  split
  · exact hevaluated.of_keeps (.mark ..)
  · exact hevaluated

/-! ### Acknowledgement, removal and retirement keep the laws (R18, R133, R135 to R137) -/

/-- An entry with its flag set (R135). -/
def CondEntry.acked (e : CondEntry) : CondEntry := { e with acknowledged := true }

theorem State.ackEntry_eq (s : State) (e : CondEntry) :
    s.ackEntry e = if s.ackRemoves e then (s.modEntry e.point CondEntry.acked).removeEntry e.point
      else s.modEntry e.point CondEntry.acked := rfl

theorem State.ackRemoves_iff (s : State) (e : CondEntry) :
    s.ackRemoves e = true ↔ e.level = .normal ∧ (s.pt e.point).active.policy.cls = .notify := by
  simp [State.ackRemoves]

theorem State.acked_entryOf (s : State) (n m : PointNo) :
    (s.modEntry n CondEntry.acked).entryOf m = if n = m then (s.entryOf m).map CondEntry.acked else s.entryOf m :=
  s.modEntry_entryOf n m fun _ => rfl

theorem State.ConditionLaws.ackEntry (h : s.ConditionLaws 0) {e : CondEntry} (he : s.entryOf e.point = some e) :
    (s.ackEntry e).ConditionLaws 0 := by
  obtain ⟨hcond, hmark, hlevel, hpeak, hrepeats⟩ := he ▸ h.agrees e.point
  have hflag : (s.modEntry e.point CondEntry.acked).ConditionLaws 0 := by
    have hlaws := h.modEntry (f := CondEntry.acked) (x := s.pt e.point) (fun _ => rfl) he
      ⟨hcond, hmark, hlevel, hpeak, hrepeats⟩ (h.drafts _)
    exact (State.setPt_pt_eq (s.modEntry e.point CondEntry.acked) e.point) ▸ hlaws
  rw [State.ackEntry_eq]
  split
  · obtain ⟨hnormal, -⟩ := (s.ackRemoves_iff e).1 ‹_›
    refine hflag.removeEntry ?_ (hlevel.symm.trans hnormal)
    rw [State.acked_entryOf, if_pos rfl, he]
    rfl
  · exact hflag

/-- A refill finds every entry where it was (R130). -/
theorem State.refill_entryOf {e : CondEntry} (he : s.entryOf n = some e) : s.refill.entryOf n = some e := by
  unfold State.refill
  split
  · exact (s.createEntry_entryOf _ n _ _).trans (by rw [he]; rfl)
  · exact he

/-- The acknowledgement of one entry leaves the entry of any other point. -/
theorem State.ackEntry_entryOf_ne {e f : CondEntry} (hne : e.point ≠ n) (hf : s.entryOf n = some f) :
    (s.ackEntry e).entryOf n = some f := by
  have hflag : (s.modEntry e.point CondEntry.acked).entryOf n = some f := by
    rw [State.acked_entryOf, if_neg hne, hf]
  rw [State.ackEntry_eq]
  split
  · refine State.refill_entryOf ?_
    exact (State.dropEntry_entryOf _ e.point n).trans ((if_neg hne).trans hflag)
  · exact hflag

theorem State.ConditionLaws.ackEntries {es : List CondEntry} (hd : (es.map CondEntry.point).Nodup)
    (h : s.ConditionLaws 0) (hes : ∀ e ∈ es, s.entryOf e.point = some e) :
    (es.foldl State.ackEntry s).ConditionLaws 0 := by
  induction es generalizing s with
  | nil => exact h
  | cons e es ih =>
    obtain ⟨hnew, hd⟩ := List.nodup_cons.1 hd
    refine ih hd (h.ackEntry (hes e List.mem_cons_self)) fun f hf => ?_
    exact State.ackEntry_entryOf_ne (fun heq => hnew (heq ▸ List.mem_map_of_mem hf)) (hes f (List.mem_cons_of_mem _ hf))

/-- A record that can have no condition agrees with having none (R120). -/
theorem Point.agrees_of_unconditioned {x : Point} {full : Prop} (hcond : x.state.conditioned = false)
    (hmark : x.unlisted = false) : x.Agrees full none :=
  ⟨fun h => (nomatch hmark.symm.trans h), fun _ h => (nomatch hcond.symm.trans h)⟩

/-- A record that can have no condition has neither entry nor mark (R8, R120). -/
theorem State.ConditionLaws.unconditioned (h : s.ConditionLaws 0) (hcond : (s.pt n).state.conditioned = false) :
    s.entryOf n = none ∧ (s.pt n).unlisted = false := by
  have hagrees := h.agrees n
  cases he : s.entryOf n with
  | some e =>
    rw [he] at hagrees
    exact nomatch hcond.symm.trans hagrees.1
  | none =>
    rw [he] at hagrees
    exact ⟨rfl, Bool.eq_false_iff.2 fun hmark => nomatch hcond.symm.trans (hagrees.1 hmark).2⟩

theorem retiredRecord_conditioned (x : Point) : (retiredRecord x).state.conditioned = false := by
  unfold retiredRecord
  simp only
  split <;> rfl

theorem retiredRecord_draftCalm (x : Point) : (retiredRecord x).DraftCalm := by
  unfold retiredRecord Point.DraftCalm
  simp only
  split <;> exact nofun

/-- A record retired, and its entry, if it has one, gone with a refill (R18, R130). -/
theorem State.ConditionLaws.retireEntry (h : s.ConditionLaws 0) (n : PointNo) :
    ((s.modPt n retiredRecord).retireEntry n).ConditionLaws 0 := by
  have hagrees {full : Prop} : (retiredRecord (s.pt n)).Agrees full none :=
    Point.agrees_of_unconditioned (retiredRecord_conditioned _) rfl
  have hentry : (s.modPt n retiredRecord).entryOf n = s.entryOf n := rfl
  unfold State.retireEntry
  rw [hentry]
  split
  · have hdrop : ((s.dropEntry n).setPt n (retiredRecord (s.pt n))).ConditionLaws 1 :=
      h.dropEntry ‹_› hagrees (retiredRecord_draftCalm _)
    exact hdrop.refill
  · have hnone : s.entryOf n = none := by simpa using ‹¬(s.entryOf n).isSome = true›
    exact h.setPt (x := retiredRecord (s.pt n)) (hnone ▸ hagrees) (retiredRecord_draftCalm _)

end

/-! ### Rules of commands that leave the condition unit alone -/

section

variable (p : CmdPort) (ps : List Byte) (s : State)

theorem readProfileRule_keepsConditions : s.KeepsConditions (readProfileRule ps s).2 :=
  withPoint_keeps (P := s.KeepsConditions) (.refl s) fun n => by split <;> exact .refl s

theorem readValueRule_keepsConditions : s.KeepsConditions (readValueRule ps s).2 :=
  withPoint_keeps (P := s.KeepsConditions) (.refl s) fun _ => .refl s

theorem readChangedRule_keepsConditions : s.KeepsConditions (readChangedRule p ps s).2 := by
  unfold readChangedRule
  simp only
  split <;> exact .of_eq rfl rfl

theorem editRule_keepsConditions : s.KeepsConditions (editRule p ps s).2 :=
  withPoint_keeps (P := s.KeepsConditions) (.refl s) fun n =>
    unlessHeld_keeps (P := s.KeepsConditions) (.refl s) <| by
      split
      · exact .refl s
      split
      · exact .refl s
      split
      · rename_i g _ _
        cases he : s.editIsStaged n with
        | true =>
          rw [State.acceptEdit_staged he]
          exact .modPt (f := fun _ => _) (.of_state rfl rfl rfl rfl fun _ => id)
        | false =>
          rw [State.acceptEdit_active he]
          have hwrite : s.KeepsConditions (s.writeActive n ((s.pt n).active.write g)) := by
            refine ⟨(EngineKeeps.writeActive ..).cond, fun m => ?_⟩
            rw [(State.writeActive_acts _).pt]
            split
            · subst_vars
              exact Point.keepsCondition_withActive ..
            · exact .refl _
          exact (hwrite.trans (.modPt (.of_state rfl rfl rfl rfl fun _ => id))).settle
      · exact .refl s

theorem holdRule_keepsConditions : s.KeepsConditions (holdRule p ps s).2 :=
  withPoint_keeps (P := s.KeepsConditions) (.refl s) fun n => by
    simp only
    split
    · exact .refl s
    refine unlessHeld_keeps (P := s.KeepsConditions) (.refl s) ?_
    split
    · exact .of_eq rfl rfl
    split <;> exact .of_eq rfl rfl

theorem releaseRule_keepsConditions : s.KeepsConditions (releaseRule p ps s).2 :=
  withPoint_keeps (P := s.KeepsConditions) (.refl s) fun n => by
    split
    · exact .of_eq rfl rfl
    split <;> exact .of_eq rfl rfl

theorem rlistInsertRule_keepsConditions : s.KeepsConditions (rlistInsertRule ps s).2 :=
  withPoint_keeps (P := s.KeepsConditions) (.refl s) fun n => by
    simp only
    split
    · exact .refl s
    split
    · exact .refl s
    split <;> exact .of_eq rfl rfl

theorem rlistRemoveRule_keepsConditions : s.KeepsConditions (rlistRemoveRule ps s).2 :=
  withPoint_keeps (P := s.KeepsConditions) (.refl s) fun n => by
    split <;> exact .of_eq rfl rfl

theorem plistSetRule_keepsConditions : s.KeepsConditions (plistSetRule ps s).2 := by
  unfold plistSetRule
  split
  · exact .refl s
  split
  · exact .refl s
  split
  · exact .refl s
  split <;> exact .of_eq rfl rfl

theorem scanStartRule_keepsConditions : s.KeepsConditions (scanStartRule ps s).2 := by
  unfold scanStartRule
  split
  · exact .refl s
  split
  · exact (State.KeepsConditions.modScan s _).settle
  · exact .refl s

theorem State.stopScan_keepsConditions : s.KeepsConditions s.stopScan := by
  unfold State.stopScan
  split
  · exact .modScan ..
  · exact (s.keepsConditions_promote.trans (.modScan ..)).settle
  · exact .refl s

theorem skipPassRule_keepsConditions : s.KeepsConditions (skipPassRule s).2 := by
  unfold skipPassRule
  split
  · exact (s.keepsConditions_withdraw .routine).settle
  · exact .refl s

theorem State.requestRun_keepsConditions : s.KeepsConditions s.requestRun := by
  unfold State.requestRun
  split
  · split <;> exact .of_eq rfl rfl
  · exact (State.KeepsConditions.modScan s _).settle

theorem abortPointRule_keepsConditions : s.KeepsConditions (abortPointRule ps s).2 :=
  withPoint_keeps (P := s.KeepsConditions) (.refl s) fun n => by
    split
    · exact .refl s
    · rename_i i r _
      have hover : s.KeepsConditions (s.handOver r.origin n .cancelled) := .modScan ..
      exact (hover.trans (.modPort ..)).settle

theorem scanConfigRule_keepsConditions : s.KeepsConditions (scanConfigRule ps s).2 := by
  unfold scanConfigRule
  split
  · exact .refl s
  split <;> exact .of_eq rfl rfl

theorem portConfigRule_keepsConditions : s.KeepsConditions (portConfigRule ps s).2 := by
  unfold portConfigRule
  split
  · split
    · exact .refl s
    split
    · exact .refl s
    · exact (State.KeepsConditions.modPort s _ _).settle
  · exact .refl s

theorem portRestoreRule_keepsConditions : s.KeepsConditions (portRestoreRule ps s).2 := by
  unfold portRestoreRule
  split
  · exact .refl s
  split
  · exact (State.KeepsConditions.modPort s _ _).settle
  · exact .refl s

theorem portStatusRule_keepsConditions : s.KeepsConditions (portStatusRule ps s).2 := by
  unfold portStatusRule
  split
  · simp only [accept]
    split <;> exact .of_eq rfl rfl
  · exact .refl s

theorem clearFlagsRule_keepsConditions : s.KeepsConditions (clearFlagsRule ps s).2 := by
  unfold clearFlagsRule
  split <;> exact .of_eq rfl rfl

theorem attnMaskRule_keepsConditions : s.KeepsConditions (attnMaskRule ps s).2 := by
  unfold attnMaskRule
  split <;> exact .of_eq rfl rfl

theorem enterQuietRule_keepsConditions : s.KeepsConditions (enterQuietRule s).2 := by
  have hentry : s.KeepsConditions s.enterQuiet := by
    have hall : s.KeepsConditions s.withdrawAll := s.keepsConditions_halt.trans (.of_eq rfl rfl)
    unfold State.enterQuiet
    split <;> exact hall.trans (.of_eq rfl rfl)
  unfold enterQuietRule
  split
  · exact .refl s
  split
  · exact .refl s
  · exact hentry

theorem exitQuietRule_keepsConditions : s.KeepsConditions (exitQuietRule s).2 := by
  have hexit : s.KeepsConditions s.exitQuiet := by
    unfold State.exitQuiet
    split <;> exact .of_eq rfl rfl
  unfold exitQuietRule
  split
  · exact hexit
  · exact .refl s

end

/-! ### Rules of commands that move a record's state or the list -/

theorem accept_conditionLaws {data : List Byte} {s : State} (hs : s.ConditionLaws 0) :
    (accept data s).2.ConditionLaws 0 := hs

theorem State.keepsConditions_unlink (s : State) (n : PointNo) : s.KeepsConditions (s.unlink n) := by
  have hnext (u : State) (m : PointNo) (h : Option PointNo) : u.KeepsConditions (u.setNext m h) :=
    .modPt (f := fun x => { x with next := h }) (.of_state rfl rfl rfl rfl fun _ => id)
  have hhead (b : Byte) (h : Option PointNo) : s.KeepsConditions (s.setHead b h) := .of_eq rfl rfl
  unfold State.unlink
  simp only
  split
  · exact (hhead _ _).trans (hnext ..)
  · split
    · exact (hnext ..).trans (hnext ..)
    · exact hnext ..

/-- The removal at a retirement neither reads nor writes the scan engine. -/
theorem State.retireEntry_modScan (s : State) (f : Scan → Scan) (n : PointNo) :
    (s.modScan f).retireEntry n = (s.retireEntry n).modScan f := by
  have hentry : (s.modScan f).entryOf n = s.entryOf n := rfl
  unfold State.retireEntry
  rw [hentry]
  split
  · exact State.refill_modScan (s.dropEntry n) f
  · rfl

section

variable {p : CmdPort} {ps : List Byte} {s : State} (hs : s.ConditionLaws 0)

include hs

theorem defineRule_conditionLaws : (defineRule ps s).2.ConditionLaws 0 := by
  unfold defineRule
  simp only
  split
  · exact hs
  split
  · exact hs
  split
  · exact hs
  · rename_i n hn
    have hfree : (s.pt n).state = .free := beq_iff_eq.1 ((Table.first_eq_some ..).1 hn).1
    obtain ⟨hnone, -⟩ := hs.unconditioned (n := n) (by rw [hfree]; rfl)
    have hrecord : (s.setPt n (definedRecord (s.pt n) (wordAt32 ps 0))).ConditionLaws 0 :=
      hs.setPt (hnone ▸ Point.agrees_of_unconditioned rfl rfl) fun _ => ⟨rfl, rfl, rfl⟩
    have hlink (u : State) (t : Tag) : u.KeepsConditions (u.link n t) :=
      (State.KeepsConditions.modPt (f := fun x => { x with next := u.head (bucketOf t) })
        (.of_state rfl rfl rfl rfl fun _ => id)).trans (.of_eq rfl rfl)
    exact hrecord.of_keeps (hlink _ _)

theorem lifecycleRule_conditionLaws {before : PointState} {change : Point → Point}
    (h : ∀ n, (s.pt n).state = before → (s.modPt n change).ConditionLaws 0) :
    (lifecycleRule p ps before change s).2.ConditionLaws 0 :=
  withPoint_keeps (P := (State.ConditionLaws · 0)) hs fun n =>
    unlessHeld_keeps (P := (State.ConditionLaws · 0)) hs <| by
      split
      · have hbump : (s.modPt n change).KeepsConditions ((s.modPt n change).bumpRevision n) :=
          .modPt (.of_state rfl rfl rfl rfl fun _ => id)
        exact ((h n ‹_›).of_keeps hbump).settle
      · exact hs

/-- A DRAFT point goes LIVE without a condition (R14, R114). -/
theorem State.ConditionLaws.activated {n : PointNo} (hdraft : (s.pt n).state = .draft) :
    (s.modPt n activated).ConditionLaws 0 := by
  obtain ⟨hnone, hmark⟩ := hs.unconditioned (n := n) (by rw [hdraft]; rfl)
  obtain ⟨-, hlevel, hpeak⟩ := hs.drafts n hdraft
  refine hs.setPt (x := Machine.activated (s.pt n)) ?_ nofun
  rw [hnone]
  exact ⟨fun h => (nomatch hmark.symm.trans h), fun _ _ => ⟨hlevel, hpeak⟩⟩

theorem State.ConditionLaws.parked {n : PointNo} (hlive : (s.pt n).state = .live) :
    (s.modPt n parkedPoint).ConditionLaws 0 :=
  hs.of_keeps (.modPt ⟨by rw [hlive]; rfl, rfl, rfl, rfl, nofun⟩)

theorem State.ConditionLaws.unparked {n : PointNo} (hparked : (s.pt n).state = .parked) :
    (s.modPt n unparkedPoint).ConditionLaws 0 :=
  hs.of_keeps (.modPt ⟨by rw [hparked]; rfl, rfl, rfl, rfl, nofun⟩)

theorem State.retirePoint_conditionLaws (n : PointNo) : (s.retirePoint n).ConditionLaws 0 := by
  have hretired := (hs.of_keeps (s.keepsConditions_unlink n)).retireEntry n
  have hlists :
      ((((s.unlink n).modPt n retiredRecord).modScan fun c => c.without n).retireEntry n).ConditionLaws 0 := by
    rw [State.retireEntry_modScan]
    exact hretired.of_keeps (.modScan ..)
  have hrest (u : State) (holds : List HoldRecord) :
      u.KeepsConditions ((((u.setHolds holds).forgetExpired .host n).forgetExpired .service n).unmark n) :=
    .of_eq rfl rfl
  exact (hlists.of_keeps (hrest _ _)).settle

theorem retireRule_conditionLaws : (retireRule p ps s).2.ConditionLaws 0 :=
  withPoint_keeps (P := (State.ConditionLaws · 0)) hs fun n =>
    unlessHeld_keeps (P := (State.ConditionLaws · 0)) hs (State.retirePoint_conditionLaws hs n)

theorem ackRule_conditionLaws : (ackRule ps s).2.ConditionLaws 0 :=
  withPoint_keeps (P := (State.ConditionLaws · 0)) hs fun n => by
    split
    · exact hs
    · rename_i e he
      obtain ⟨-, rfl⟩ := State.entryOf_some he
      exact hs.ackEntry he

theorem ackUptoRule_conditionLaws : (ackUptoRule ps s).2.ConditionLaws 0 := by
  unfold ackUptoRule
  split
  · exact hs
  · rename_i es hes
    obtain ⟨i, -, rfl⟩ := Option.map_eq_some_iff.1 hes
    have hsub := List.take_sublist (i + 1) s.cond.list
    exact hs.ackEntries (hs.once.sublist (hsub.map _)) fun e he => State.entryOf_of_mem hs.once (hsub.subset he)

theorem condClearRule_conditionLaws : (condClearRule ps s).2.ConditionLaws 0 :=
  withPoint_keeps (P := (State.ConditionLaws · 0)) hs fun n => by
    split
    · exact hs
    rename_i e he
    split
    · rename_i hclear
      have hagrees := hs.agrees n
      rw [he] at hagrees
      obtain ⟨-, -, hlevel, -⟩ := hagrees
      exact accept_conditionLaws (hs.removeEntry (Option.isSome_of_eq_some he) (hlevel.symm.trans hclear.2))
    · exact hs

end

/-- An empty list with every record calm meets the laws. -/
theorem State.ConditionLaws.of_calm {s : State} (hlist : s.cond.list = []) (hmark : ∀ n, (s.pt n).unlisted = false)
    (hcalm : ∀ n, (s.pt n).state.conditioned = true → (s.pt n).level = .normal ∧ (s.pt n).peak = .normal)
    (hdraft : ∀ n, (s.pt n).DraftCalm) : s.ConditionLaws 0 := by
  have hnone (n : PointNo) : s.entryOf n = none := State.entryOf_eq_none.2 (by simp [hlist])
  refine ⟨by simp [hlist], by simp [hlist], fun n => ?_, hdraft⟩
  rw [hnone]
  exact ⟨fun h => (nomatch (hmark n).symm.trans h), fun _ => hcalm n⟩

/-- A named record at SOFT_RESET reads UNSCANNED at NORMAL (R22). -/
theorem Point.softReset_calm {x : Point} (h : x.softReset.state.named = true) :
    x.softReset.quality = .unscanned ∧ x.softReset.level = .normal ∧ x.softReset.peak = .normal := by
  unfold Point.softReset at *
  simp only at *
  split
  · exact ⟨rfl, rfl, rfl⟩
  · rename_i hnamed
    rw [if_neg hnamed] at h
    cases hx : x.state <;> simp [hx, PointState.named] at h hnamed

theorem PointState.named_of_conditioned {st : PointState} (h : st.conditioned = true) : st.named = true := by
  cases st with
  | draft | live | parked => rfl
  | free | retiring => cases h

theorem State.softReset_conditionLaws (s : State) (p : CmdPort) : (s.softReset p).ConditionLaws 0 := by
  have hpt (n : PointNo) : (s.softReset p).pt n = (s.pt n).softReset := Table.get_map ..
  refine .of_calm rfl (fun n => ?_) (fun n hcond => ?_) fun n hdraft => ?_
  · rw [hpt]
    unfold Point.softReset
    simp only
    split <;> rfl
  · rw [hpt] at *
    exact (Point.softReset_calm (PointState.named_of_conditioned hcond)).2
  · rw [hpt] at *
    exact Point.softReset_calm (by rw [hdraft]; rfl)

theorem initialState_conditionLaws (high : Bool) (waiting : List Instr) :
    (initialState high waiting).ConditionLaws 0 := by
  have hpt (n : PointNo) : (initialState high waiting).pt n = Point.initial := Table.get_replicate ..
  refine .of_calm rfl (fun n => ?_) (fun n _ => ?_) fun n hdraft => ?_
  · rw [hpt]; rfl
  · rw [hpt]; exact ⟨rfl, rfl⟩
  · rw [hpt] at *
    cases hdraft

/-! ### Events and the condition laws -/

section

variable (s : State)

/-- The end of a record: the mark goes, and a RETIRING point becomes FREE (R7, R19). -/
theorem State.keepsConditions_endRecord (n : PointNo) : s.KeepsConditions (s.endRecord n) := by
  refine .modPt ⟨?_, rfl, rfl, rfl, fun hdraft => ?_⟩
  · simp only
    split
    · simp [*, PointState.conditioned]
    · rfl
  · simp only at hdraft
    split at hdraft
    · cases hdraft
    · exact ⟨hdraft, id⟩

theorem State.keepsConditions_drainEnded : s.KeepsConditions s.drainEnded := by
  unfold State.drainEnded
  split <;> exact .of_eq rfl rfl

theorem State.keepsConditions_probeEnded : s.KeepsConditions s.probeEnded := by
  unfold State.probeEnded
  split <;> exact .of_eq rfl rfl

/-- A conversion that ends withdrawn, by an answer or by its timer (R93, R94). -/
theorem State.keepsConditions_withdrawnEnd (i : PortNo) (n : PointNo) (f : SamplePort → SamplePort) :
    s.KeepsConditions (((s.modPort i f).endRecord n).settle).drainEnded :=
  (((State.KeepsConditions.modPort s i f).trans (State.keepsConditions_endRecord _ n)).settle).trans
    (State.keepsConditions_drainEnded _)

/-- A probe that ends, answered or not (R97, R98). -/
theorem State.keepsConditions_probeEnd (i : PortNo) (f : SamplePort → SamplePort) :
    s.KeepsConditions ((s.modPort i f).probeEnded).settle :=
  ((State.KeepsConditions.modPort s i f).trans (State.keepsConditions_probeEnded _)).settle

theorem State.takeTimeout_keepsConditions (i : PortNo) (r : ConvRecord) : s.KeepsConditions (s.takeTimeout i r) := by
  have hport : s.KeepsConditions (s.modPort i fun x => x.timedOut r) := .modPort ..
  unfold State.takeTimeout
  simp only
  split
  · rename_i h
    have hfault := hport.trans (State.keepsConditions_faultPoint (s.modPort i fun x => x.timedOut r) h.2)
    exact (hfault.trans (.modScan ..)).settle
  · exact (hport.trans (.modScan ..)).settle

theorem State.takeTick_keepsConditions : s.KeepsConditions s.takeTick := by
  have hinterval : s.KeepsConditions (s.modScan Scan.nextInterval) := .modScan ..
  unfold State.takeTick
  simp only
  split
  · exact (hinterval.trans (.modScan ..)).settle
  · exact .of_eq rfl rfl
  · exact hinterval

theorem State.keepsConditions_idle : s.KeepsConditions s.idle := by
  unfold State.idle
  split <;> exact .of_eq rfl rfl

theorem State.spiWrite_keepsConditions (bytes : List Byte) : s.KeepsConditions (s.spiWrite bytes) := by
  unfold State.spiWrite
  split
  · exact .refl s
  · split <;> exact .of_eq rfl rfl

theorem State.i2cWrite_keepsConditions (address : BitVec 7) (bytes : List Byte) :
    s.KeepsConditions (s.i2cWrite address bytes) := by
  unfold State.i2cWrite
  simp only
  split <;> exact .of_eq rfl rfl

theorem State.i2cRead_keepsConditions (address : BitVec 7) : s.KeepsConditions (s.i2cRead address) := by
  unfold State.i2cRead
  simp only
  split <;> exact .of_eq rfl rfl

end

section

variable {s : State} (hs : s.ConditionLaws 0)

include hs

/-- A result grades and evaluates a LIVE point alone (R90, R105). -/
theorem State.takeResult_conditionLaws (i : PortNo) (r : ConvRecord) (code : BitVec 16) (range : RangeFlag) :
    (s.takeResult i r code range).ConditionLaws 0 := by
  have hended := (State.KeepsConditions.modPort s i fun x => { x with phase := .idle, timeoutCount := 0 }).trans
    (State.keepsConditions_endRecord _ r.point)
  have hlaws := hs.of_keeps hended
  unfold State.takeResult
  simp only
  split
  · rename_i h
    have hcond := (hended.record r.point).conditioned
    rw [h.2] at hcond
    exact ((hlaws.processResult hcond code range).of_keeps (.modScan ..)).settle
  · exact (hlaws.of_keeps (.modScan ..)).settle

theorem State.receive_conditionLaws (i : PortNo) (m : LinkRx) : (s.receive i m).ConditionLaws 0 := by
  have hstray : (s.modPort i SamplePort.stray).ConditionLaws 0 := hs.of_keeps (.modPort ..)
  have hrelease (r : ConvRecord) : (s.takeRelease i r).ConditionLaws 0 :=
    hs.of_keeps (s.keepsConditions_withdrawnEnd i r.point _)
  unfold State.receive
  split
  · split
    · exact State.takeResult_conditionLaws hs ..
    · exact hstray
  · split
    · exact hrelease _
    · exact hstray
  · split
    · exact hrelease _
    · exact hstray
  · exact hs.of_keeps (s.keepsConditions_probeEnd i _)
  · exact hstray

/-! ### Every row of the table and the condition laws -/

theorem runCommand_conditionLaws {c : Cmd} {p : CmdPort} {ps : List Byte} {own : State → Answer × State} {t : State}
    (ht : runCommand c p ps own s = .next t) (h : (own s).2.ConditionLaws 0) : t.ConditionLaws 0 := by
  have hrespond (r : Answer × State) (hr : r.2.ConditionLaws 0) : (respond p r).ConditionLaws 0 :=
    hr.of_keeps (.of_eq rfl rfl)
  rw [runCommand_eq] at ht
  cases ht
  split
  · refine hrespond _ ?_
    unfold checked
    split
    · exact hs
    · split
      · exact h
      · exact hs
  · exact hs

theorem runCommand_keepsConditions {c : Cmd} {p : CmdPort} {ps : List Byte} {own : State → Answer × State} {t : State}
    (ht : runCommand c p ps own s = .next t) (h : s.KeepsConditions (own s).2) : t.ConditionLaws 0 :=
  runCommand_conditionLaws hs ht (hs.of_keeps h)

theorem onEvent_conditionLaws {f : State → State} {t : State} (ht : onEvent f s = .next t)
    (h : (f s).ConditionLaws 0) : t.ConditionLaws 0 := by
  rw [onEvent_eq] at ht
  cases ht
  split
  · exact hs
  · exact h

theorem onEvent_keepsConditions {f : State → State} {t : State} (ht : onEvent f s = .next t)
    (h : s.KeepsConditions (f s)) : t.ConditionLaws 0 := onEvent_conditionLaws hs ht (hs.of_keeps h)

theorem execUnknownOpcode_conditionLaws {p : CmdPort} {opcode : Byte} {ps : List Byte} {t : State}
    (ht : execUnknownOpcode p opcode ps s = .next t) : t.ConditionLaws 0 := by
  unfold execUnknownOpcode at ht
  split at ht <;> cases ht
  · exact hs.of_keeps (.of_eq rfl rfl)
  · exact hs

/-- The effect of every row of the table keeps the condition laws. -/
theorem exec_conditionLaws {c : Instr} {t : State} (ht : exec c s = .next t) : t.ConditionLaws 0 := by
  cases c with
  | define p ps => exact runCommand_conditionLaws hs ht (defineRule_conditionLaws hs)
  | find p ps => exact runCommand_keepsConditions hs ht (findRule_state ▸ .refl s)
  | readProfile p ps => exact runCommand_keepsConditions hs ht (readProfileRule_keepsConditions ps s)
  | readValue p ps => exact runCommand_keepsConditions hs ht (readValueRule_keepsConditions ps s)
  | edit p ps => exact runCommand_keepsConditions hs ht (editRule_keepsConditions p ps s)
  | activate p ps =>
    exact runCommand_conditionLaws hs ht (lifecycleRule_conditionLaws hs fun _ => State.ConditionLaws.activated hs)
  | park p ps =>
    exact runCommand_conditionLaws hs ht (lifecycleRule_conditionLaws hs fun _ => State.ConditionLaws.parked hs)
  | unpark p ps =>
    exact runCommand_conditionLaws hs ht (lifecycleRule_conditionLaws hs fun _ => State.ConditionLaws.unparked hs)
  | retire p ps => exact runCommand_conditionLaws hs ht (retireRule_conditionLaws hs)
  | readChanged p ps => exact runCommand_keepsConditions hs ht (readChangedRule_keepsConditions p ps s)
  | hold p ps => exact runCommand_keepsConditions hs ht (holdRule_keepsConditions p ps s)
  | release p ps => exact runCommand_keepsConditions hs ht (releaseRule_keepsConditions p ps s)
  | rlistInsert p ps => exact runCommand_keepsConditions hs ht (rlistInsertRule_keepsConditions ps s)
  | rlistRemove p ps => exact runCommand_keepsConditions hs ht (rlistRemoveRule_keepsConditions ps s)
  | rlistClear p ps => exact runCommand_keepsConditions hs ht (.modScan ..)
  | rlistRead p ps => exact runCommand_keepsConditions hs ht (rlistReadRule_state ▸ .refl s)
  | plistSet p ps => exact runCommand_keepsConditions hs ht (plistSetRule_keepsConditions ps s)
  | plistRead p ps => exact runCommand_keepsConditions hs ht (plistReadRule_state ▸ .refl s)
  | scanStart p ps => exact runCommand_keepsConditions hs ht (scanStartRule_keepsConditions ps s)
  | scanStop p ps => exact runCommand_keepsConditions hs ht s.stopScan_keepsConditions
  | scanHalt p ps => exact runCommand_keepsConditions hs ht s.keepsConditions_halt
  | skipPass p ps => exact runCommand_keepsConditions hs ht (skipPassRule_keepsConditions s)
  | runPriority p ps => exact runCommand_keepsConditions hs ht s.requestRun_keepsConditions
  | abortPoint p ps => exact runCommand_keepsConditions hs ht (abortPointRule_keepsConditions ps s)
  | scanConfig p ps => exact runCommand_keepsConditions hs ht (scanConfigRule_keepsConditions ps s)
  | scanStatus p ps => exact runCommand_keepsConditions hs ht (.refl s)
  | condRead p ps => exact runCommand_keepsConditions hs ht (condReadRule_state ▸ .refl s)
  | ack p ps => exact runCommand_conditionLaws hs ht (ackRule_conditionLaws hs)
  | ackUpto p ps => exact runCommand_conditionLaws hs ht (ackUptoRule_conditionLaws hs)
  | condClear p ps => exact runCommand_conditionLaws hs ht (condClearRule_conditionLaws hs)
  | portConfig p ps => exact runCommand_keepsConditions hs ht (portConfigRule_keepsConditions ps s)
  | portRestore p ps => exact runCommand_keepsConditions hs ht (portRestoreRule_keepsConditions ps s)
  | portStatus p ps => exact runCommand_keepsConditions hs ht (portStatusRule_keepsConditions ps s)
  | status p ps => exact runCommand_keepsConditions hs ht (.refl s)
  | clearFlags p ps => exact runCommand_keepsConditions hs ht (clearFlagsRule_keepsConditions ps s)
  | attnMask p ps => exact runCommand_keepsConditions hs ht (attnMaskRule_keepsConditions ps s)
  | identify p ps => exact runCommand_keepsConditions hs ht (.refl s)
  | enterQuiet p ps => exact runCommand_keepsConditions hs ht (enterQuietRule_keepsConditions s)
  | exitQuiet p ps => exact runCommand_keepsConditions hs ht (exitQuietRule_keepsConditions s)
  | softReset p ps => exact runCommand_conditionLaws hs ht (s.softReset_conditionLaws p)
  | unknownOpcode p opcode ps => exact execUnknownOpcode_conditionLaws hs ht
  | commandFrame bus bytes =>
    unfold exec execCommandFrame at ht
    refine onEvent_keepsConditions hs ht ?_
    cases bus with
    | spi => exact s.spiWrite_keepsConditions bytes
    | i2c address => exact s.i2cWrite_keepsConditions address bytes
  | fetch bus =>
    unfold exec execFetch at ht
    refine onEvent_keepsConditions hs ht ?_
    cases bus with
    | spi => exact .of_eq rfl rfl
    | i2c address => exact s.i2cRead_keepsConditions address
  | fetchEnd p delivered =>
    unfold exec execFetchEnd at ht
    exact onEvent_keepsConditions hs ht (.of_eq rfl rfl)
  | result i seq code range =>
    unfold exec execResult at ht
    exact onEvent_conditionLaws hs ht (State.receive_conditionLaws hs i _)
  | cancelAck i seq =>
    unfold exec execCancelAck at ht
    exact onEvent_conditionLaws hs ht (State.receive_conditionLaws hs i _)
  | present i cls =>
    unfold exec execPresent at ht
    exact onEvent_conditionLaws hs ht (State.receive_conditionLaws hs i _)
  | damagedMessage i burst =>
    unfold exec execDamagedMessage at ht
    exact onEvent_conditionLaws hs ht (State.receive_conditionLaws hs i _)
  | timeout i =>
    unfold exec execTimeout at ht
    refine onEvent_keepsConditions hs ht ?_
    split
    · split
      · exact s.takeTimeout_keepsConditions i _
      · exact .refl s
    all_goals exact .refl s
  | cancelTimerExpiry i =>
    unfold exec execCancelTimerExpiry at ht
    refine onEvent_keepsConditions hs ht ?_
    split
    · split
      · exact s.keepsConditions_withdrawnEnd i _ _
      · exact .refl s
    all_goals exact .refl s
  | probeTimerExpiry i =>
    unfold exec execProbeTimerExpiry at ht
    refine onEvent_keepsConditions hs ht ?_
    split
    · split
      · exact s.keepsConditions_probeEnd i _
      · exact .refl s
    all_goals exact .refl s
  | periodTick =>
    unfold exec execPeriodTick at ht
    refine onEvent_keepsConditions hs ht ?_
    split
    · exact s.takeTick_keepsConditions
    · exact .refl s
  | holdExpiry n =>
    unfold exec execHoldExpiry at ht
    refine onEvent_keepsConditions hs ht ?_
    split
    · split <;> exact .of_eq rfl rfl
    · exact .refl s
  | wakeGuardExpiry =>
    unfold exec execWakeGuardExpiry at ht
    refine onEvent_keepsConditions hs ht ?_
    split <;> exact .of_eq rfl rfl
  | ptrig =>
    unfold exec execPtrig at ht
    refine onEvent_keepsConditions hs ht ?_
    split
    · exact s.requestRun_keepsConditions
    · exact .refl s
  | powerOn high =>
    cases ht
    exact (initialState_conditionLaws high s.pending).of_keeps (.of_eq rfl rfl)
  | resetN edge =>
    cases edge with
    | rise high =>
      cases ht
      exact (initialState_conditionLaws high s.pending).of_keeps (.of_eq rfl rfl)
    | fall =>
      cases ht
      exact hs.of_keeps (.of_eq rfl rfl)

end

/-- Settles O57: the laws are one invariant on the record and the entry of each point, which the row of the front step
restores at the points whose entry, mark or state it moves, and a tick does not touch. -/
theorem everyStepKeepsTheConditionLaws : Obligations.EveryStepKeepsTheConditionLaws := by
  intro s t hlist hmarks hcalm ht
  have hs : s.ConditionLaws 0 := s.conditionLaws_iff.2 ⟨hlist, hmarks, hcalm⟩
  refine t.conditionLaws_iff.1 ?_
  unfold step at ht
  split at ht
  · cases ht
    exact hs.of_keeps s.keepsConditions_idle
  · rename_i c rest _
    have hqueue : s.KeepsConditions { s with pending := rest } := .of_eq rfl rfl
    exact exec_conditionLaws (hs.of_keeps hqueue) ht

/-! ### Bands (R122 to R124) -/

theorem atOrAbove_map_iff (v : Int) (limit : Option Int) (f : Int → Int) :
    atOrAbove v (limit.map f) = true ↔ ∃ w, limit = some w ∧ f w ≤ v := by
  cases limit <;> simp [atOrAbove]

theorem atOrBelow_map_iff (v : Int) (limit : Option Int) (f : Int → Int) :
    atOrBelow v (limit.map f) = true ↔ ∃ w, limit = some w ∧ v ≤ f w := by
  cases limit <;> simp [atOrBelow]

/-- A limit as its threshold of R122: relaxed by `d` and clipped where the level stands at or beyond it. -/
def relaxedLimit (held : Bool) (w d : Int) : Int :=
  if held then max (-8388608) (min 8388607 (w + d)) else w

section

variable (b : Band) (current : Level) (v : Int)

theorem atOrAbove_hiTripAt : atOrAbove v (hiTripAt b current) = true
    ↔ ∃ w, b.hiTrip = some w ∧ relaxedLimit (current = .highTrip) w (-b.hysteresis) ≤ v := by
  simp [hiTripAt, atOrAbove_map_iff, relaxedLimit, saturate, Config.engMin, Config.engMax, Int.sub_eq_add_neg]

theorem atOrAbove_hiWarnAt : atOrAbove v (hiWarnAt b current) = true
    ↔ ∃ w, b.hiWarn = some w
      ∧ relaxedLimit (current = .highWarn ∨ current = .highTrip) w (-b.hysteresis) ≤ v := by
  simp [hiWarnAt, atOrAbove_map_iff, relaxedLimit, saturate, Config.engMin, Config.engMax, Int.sub_eq_add_neg]

theorem atOrBelow_loTripAt : atOrBelow v (loTripAt b current) = true
    ↔ ∃ w, b.loTrip = some w ∧ v ≤ relaxedLimit (current = .lowTrip) w b.hysteresis := by
  simp [loTripAt, atOrBelow_map_iff, relaxedLimit, saturate, Config.engMin, Config.engMax]

theorem atOrBelow_loWarnAt : atOrBelow v (loWarnAt b current) = true
    ↔ ∃ w, b.loWarn = some w ∧ v ≤ relaxedLimit (current = .lowWarn ∨ current = .lowTrip) w b.hysteresis := by
  simp [loWarnAt, atOrBelow_map_iff, relaxedLimit, saturate, Config.engMin, Config.engMax]

end

/-- Settles O36: each line of R123 is a test against one threshold of R122, taken in order. -/
theorem bandsIndicateALevel : Obligations.BandsIndicateALevel := by
  intro x code b v clip relaxed highTrip highWarn lowTrip lowWarn
  have hHighTrip : atOrAbove v (hiTripAt b x.level) = true ↔ highTrip := atOrAbove_hiTripAt b x.level v
  have hHighWarn : atOrAbove v (hiWarnAt b x.level) = true ↔ highWarn := atOrAbove_hiWarnAt b x.level v
  have hLowTrip : atOrBelow v (loTripAt b x.level) = true ↔ lowTrip := atOrBelow_loTripAt b x.level v
  have hLowWarn : atOrBelow v (loWarnAt b x.level) = true ↔ lowWarn := atOrBelow_loWarnAt b x.level v
  have hlevel : indicatedBy code .inRange x = indicated b x.level v := rfl
  simp only [hlevel, indicated, hHighTrip, hHighWarn, hLowTrip, hLowWarn]
  refine ⟨fun h => if_pos h, fun h1 h => ?_, fun h1 h2 h => ?_, fun h1 h2 h3 h => ?_, fun h1 h2 h3 h4 => ?_, ?_, ?_⟩
  · rw [if_neg h1, if_pos h]
  · rw [if_neg h1, if_neg h2, if_pos h]
  · rw [if_neg h1, if_neg h2, if_neg h3, if_pos h]
  · rw [if_neg h1, if_neg h2, if_neg h3, if_neg h4]
  · simp only [indicatedBy, indicatedOver, ← Option.isSome_iff_ne_none]
    rfl
  · simp only [indicatedBy, indicatedUnder, ← Option.isSome_iff_ne_none]
    rfl

/-! ### Level changes and removals, record and list written out (R127 to R133) -/

section

variable {s : State} {n : PointNo}

/-- No other entry of a list names the point of one of its entries (R120). -/
theorem points_ne_of_split {pre post : List CondEntry} {e : CondEntry}
    (hd : ((pre ++ e :: post).map CondEntry.point).Nodup) :
    (∀ f ∈ pre, f.point ≠ e.point) ∧ ∀ f ∈ post, f.point ≠ e.point := by
  simp only [List.map_append, List.map_cons, List.nodup_append, List.nodup_cons, List.mem_cons, List.mem_map] at hd
  obtain ⟨-, ⟨hpost, -⟩, hpre⟩ := hd
  exact ⟨fun f hf heq => hpre f.point ⟨f, hf, rfl⟩ e.point (.inl rfl) heq, fun f hf heq => hpost ⟨f, hf, heq⟩⟩

/-- A change of the entries of a point writes its one entry (R120). -/
theorem State.modEntry_of_split {pre post : List CondEntry} {e : CondEntry}
    (hd : (s.cond.list.map CondEntry.point).Nodup) (hl : s.cond.list = pre ++ e :: post) (f : CondEntry → CondEntry) :
    s.modEntry e.point f = { s with cond := { s.cond with list := pre ++ f e :: post } } := by
  obtain ⟨hpre, hpost⟩ := points_ne_of_split (hl ▸ hd)
  have spared (l : List CondEntry) (h : ∀ g ∈ l, g.point ≠ e.point) :
      (l.map fun g => if g.point = e.point then f g else g) = l :=
    (List.map_congr_left (g := id) fun g hg => if_neg (h g hg)).trans l.map_id
  simp only [State.modEntry, State.modCond, hl, List.map_append, List.map_cons, spared pre hpre, spared post hpost,
    if_true]

/-- The drop of a point's entry leaves the others of the list (R133). -/
theorem State.dropEntry_of_split {pre post : List CondEntry} {e : CondEntry}
    (hd : (s.cond.list.map CondEntry.point).Nodup) (hl : s.cond.list = pre ++ e :: post) :
    (s.dropEntry e.point).cond.list = pre ++ post := by
  obtain ⟨hpre, hpost⟩ := points_ne_of_split (hl ▸ hd)
  have kept (l : List CondEntry) (h : ∀ g ∈ l, g.point ≠ e.point) : (l.filter fun g => g.point ≠ e.point) = l :=
    List.filter_eq_self.2 fun g hg => decide_eq_true (h g hg)
  simp only [State.dropEntry, State.modCond_cond, hl, List.filter_append, kept pre hpre]
  rw [List.filter_cons_of_neg (by simp), kept post hpost]

/-- The listed point of an entry, and its own peak (R119, R120). -/
theorem State.ConditionListLaw.listed {s : State} (h : s.ConditionListLaw) {e : CondEntry} (he : e ∈ s.cond.list) :
    s.entryOf e.point = some e ∧ e.peak = (s.pt e.point).peak := by
  obtain ⟨-, honce, hlisted⟩ := h
  obtain ⟨-, -, hpeak, -⟩ := hlisted e he
  exact ⟨State.entryOf_of_mem honce he, hpeak⟩

theorem CondEntry.changed_normal_acknowledged (e : CondEntry) :
    (e.changed .normal).acknowledged = e.acknowledged := rfl

/-- The level of a listed point taken, with its one entry in its place (R131). -/
theorem State.levelListed_of_split (hs : s.ConditionListLaw) {pre post : List CondEntry} {e : CondEntry}
    (hl : s.cond.list = pre ++ e :: post) (new : Level) :
    s.levelListed e.point e new = { s with
      points := s.points.set e.point { (s.pt e.point).atLevel new with peak := raisePeak (s.pt e.point).peak new }
      cond := { s.cond with list := pre ++ e.changed new :: post } } := by
  obtain ⟨-, hpeak⟩ := hs.listed (e := e) (by simp [hl])
  obtain ⟨-, honce, -⟩ := hs
  rw [State.levelListed, State.modEntry_of_split honce hl, hpeak]
  rfl

theorem State.withoutEntry_pt (s : State) (n m : PointNo) :
    (s.withoutEntry n).pt m = if n = m then { s.pt n with peak := .normal } else s.pt m :=
  State.modPt_pt (s.dropEntry n) n m _

theorem State.withoutEntry_unlisted (s : State) (n m : PointNo) :
    ((s.withoutEntry n).pt m).unlisted = (s.pt m).unlisted := by
  rw [State.withoutEntry_pt]
  split
  · subst_vars; rfl
  · rfl

/-- A removal while no point is marked (R133). -/
theorem State.removeEntry_unmarked (h : ∀ m, (s.pt m).unlisted = false) : s.removeEntry n = s.withoutEntry n :=
  State.refill_of_none fun m => (s.withoutEntry_unlisted n m).trans (h m)

/-- A removal while another point is the lowest-numbered marked one (R130, R133). -/
theorem State.removeEntry_first {m : PointNo} (hne : n ≠ m) (hm : (s.pt m).unlisted = true)
    (hfirst : ∀ k, k < m → (s.pt k).unlisted = false) :
    s.removeEntry n = ((s.withoutEntry n).createEntry m (s.pt m).level (s.pt m).peak).setPt m
      { s.pt m with unlisted := false } := by
  have hpt : (s.withoutEntry n).pt m = s.pt m := by rw [State.withoutEntry_pt, if_neg hne]
  have hcreated (u : State) (lv pk : Level) : (u.createEntry m lv pk).pt m = u.pt m := rfl
  rw [State.removeEntry_eq, State.refill_of_first ((s.withoutEntry_unlisted n m).trans hm) fun k hk =>
    (s.withoutEntry_unlisted n k).trans (hfirst k hk), State.modPt, hcreated, hpt]

end

/-- Settles O37: a level change goes by the entry and the mark of its point, a removal by the lowest-numbered mark. -/
theorem conditionListFollowsLevels : Obligations.ConditionListFollowsLevels := by
  refine ⟨fun s n new hlist hmarks => ?_, fun s n hlist hmarks hsome => ?_⟩
  · intro x worse y wrote
    refine ⟨fun hnone hmark => ?_, fun hmark => ?_, fun pre post e hl he => ?_⟩
    · have hnone := State.entryOf_eq_none.2 hnone
      refine ⟨?_, fun hnew hroom => ?_, fun hnew hfull => ?_⟩
      · rintro rfl
        exact State.levelChange_unlisted_normal hnone hmark
      · exact State.levelChange_unlisted_entered hnone hmark hnew hroom
      · exact State.levelChange_unlisted_full hnone hmark hnew hfull.ge
    · obtain ⟨-, hnone, -⟩ := hmarks n hmark
      refine ⟨fun hnew => ?_, ?_, ?_⟩
      · exact State.levelChange_marked_raised hnone hmark hnew
      · rintro rfl hcls
        exact State.levelChange_marked_notify hnone hmark hcls
      · rintro rfl hcls
        exact State.levelChange_marked_latch hnone hmark hcls
    · subst he
      intro e' u
      obtain ⟨hentry, -⟩ := hlist.listed (e := e) (by simp [hl])
      have hu : s.levelListed e.point e new = u := State.levelListed_of_split hlist hl new
      rw [State.levelChange_listed hentry, hu]
      refine if_congr (and_congr_right ?_) rfl rfl
      rintro rfl
      rw [CondEntry.changed_normal_acknowledged]
  · intro left z
    have hunmarked : (s.pt n).unlisted = false := Bool.eq_false_iff.2 fun hmark => by
      obtain ⟨-, hnone, -⟩ := hmarks n hmark
      simp [hnone] at hsome
    refine ⟨fun hno => State.removeEntry_unmarked hno, fun m hm hfirst => State.removeEntry_first ?_ hm hfirst⟩
    rintro rfl
    exact Bool.false_ne_true (hunmarked.symm.trans hm)

/-! ### ACK and COND_CLEAR (R135, R137) -/

section

variable {s : State} {n : PointNo} {ps : List Byte} {e : CondEntry}

/-- What was written into an entry goes with it (R133). -/
theorem State.dropEntry_modEntry (s : State) (n : PointNo) {f : CondEntry → CondEntry}
    (hf : ∀ e, (f e).point = e.point) : (s.modEntry n f).dropEntry n = s.dropEntry n := by
  have hpoint (e : CondEntry) : (if e.point = n then f e else e).point = e.point := by
    split <;> simp [hf]
  have hlist : (s.cond.list.map fun e => if e.point = n then f e else e).filter (fun e => e.point ≠ n)
      = s.cond.list.filter fun e => e.point ≠ n := by
    rw [List.filter_map]
    simp only [Function.comp_def, hpoint]
    have hspared := List.map_congr_left (l := s.cond.list.filter fun e => e.point ≠ n) (g := id)
      (f := fun e => if e.point = n then f e else e) fun e he => if_neg (by simpa using List.of_mem_filter he)
    exact hspared.trans (List.map_id _)
  simp only [State.dropEntry, State.modEntry, State.modCond, hlist]

theorem State.ackEntry_removed (h : s.ackRemoves e = true) : s.ackEntry e = s.removeEntry e.point := by
  have hdrop : (s.modEntry e.point CondEntry.acked).withoutEntry e.point = s.withoutEntry e.point :=
    congrArg (State.modPt · e.point fun x => { x with peak := .normal }) (s.dropEntry_modEntry e.point fun _ => rfl)
  rw [State.ackEntry_eq, if_pos h, State.removeEntry_eq, hdrop, State.removeEntry_eq]

theorem State.ackEntry_kept (h : s.ackRemoves e = false) : s.ackEntry e = s.modEntry e.point CondEntry.acked := by
  rw [State.ackEntry_eq, if_neg (by simp [h])]

variable (hn : s.resolve (selectorAt ps 0) = .ok n)

include hn

theorem ackRule_notListed (hnone : s.entryOf n = none) : ackRule ps s = refuse .notListed s := by
  rw [ackRule, withPoint_ok hn]
  simp only [hnone]

theorem ackRule_listed (he : s.entryOf n = some e) :
    ackRule ps s = accept (bytes32 e.seq ++ [flagByte (s.ackRemoves e)]) (s.ackEntry e) := by
  rw [ackRule, withPoint_ok hn]
  simp only [he]

theorem condClearRule_notListed (hnone : s.entryOf n = none) : condClearRule ps s = refuse .notListed s := by
  rw [condClearRule, withPoint_ok hn]
  simp only [hnone]

theorem condClearRule_cleared (he : s.entryOf n = some e) (hack : e.acknowledged = true) (hlevel : e.level = .normal) :
    condClearRule ps s = accept (bytes32 e.seq) (s.removeEntry n) := by
  rw [condClearRule, withPoint_ok hn]
  simp only [he]
  exact if_pos ⟨hack, hlevel⟩

theorem condClearRule_badState (he : s.entryOf n = some e) (h : e.acknowledged = false ∨ e.level ≠ .normal) :
    condClearRule ps s = refuse .badState s := by
  rw [condClearRule, withPoint_ok hn]
  simp only [he]
  refine if_neg fun hclear => ?_
  rcases h with h | h
  · exact Bool.false_ne_true (h.symm.trans hclear.1)
  · exact h hclear.2

end

/-- Settles O38: each rule goes by the entry found, which is the one entry of the point. -/
theorem ackAndCondClear : Obligations.AckAndCondClear := by
  intro p ps s n hw hlen hn hlist
  have acks {st data t} (ht : s.Takes .ack p ps) :=
    exec_row_answered (st := st) (data := data) (t := t) ht (refusalOfMode_works hw) (decide_eq_true hlen)
  have clears {st data t} (ht : s.Takes .condClear p ps) :=
    exec_row_answered (st := st) (data := data) (t := t) ht (refusalOfMode_works hw) (decide_eq_true hlen)
  refine ⟨fun ht hnone => acks ht (ackRule_notListed hn (State.entryOf_eq_none.2 hnone)),
    fun ht hnone => clears ht (condClearRule_notListed hn (State.entryOf_eq_none.2 hnone)), ?_⟩
  intro pre post e hl he leaves
  subst he
  obtain ⟨hentry, -⟩ := hlist.listed (e := e) (by simp [hl])
  refine ⟨fun ht hleaves => acks ht ((ackRule_listed hn hentry).trans ?_),
    fun ht hstays => acks ht ((ackRule_listed hn hentry).trans ?_),
    fun ht hack hlevel => clears ht (condClearRule_cleared hn hentry hack hlevel),
    fun ht hno => clears ht (condClearRule_badState hn hentry hno)⟩
  · have hremoves : s.ackRemoves e = true := (s.ackRemoves_iff e).2 hleaves
    rw [State.ackEntry_removed hremoves, hremoves]
    rfl
  · have hremoves : s.ackRemoves e = false := Bool.eq_false_iff.2 ((s.ackRemoves_iff e).not.2 hstays)
    obtain ⟨-, honce, -⟩ := hlist
    rw [State.ackEntry_kept hremoves, hremoves, State.modEntry_of_split honce hl]
    rfl

/-! ### ACK_UPTO (R136) -/

/-- The elements of a list without repetition that are not among its first `k` are those behind them. -/
theorem filter_not_mem_take {α : Type} [DecidableEq α] {l : List α} (hd : l.Nodup) (k : Nat) :
    (l.filter fun a => a ∉ l.take k) = l.drop k := by
  have hdisjoint : ∀ a ∈ l.drop k, a ∉ l.take k := fun a hdrop htake =>
    List.disjoint_of_nodup_append ((List.take_append_drop k l).symm ▸ hd) htake hdrop
  calc
    (l.filter fun a => a ∉ l.take k) = (l.take k ++ l.drop k).filter fun a => a ∉ l.take k := by
      rw [List.take_append_drop]
    _ = l.drop k := by
      rw [List.filter_append, List.filter_eq_nil_iff.2 (by simp), List.nil_append,
        List.filter_eq_self.2 fun a ha => decide_eq_true (hdisjoint a ha)]

/-- The marked points, in rising order (R130). -/
def State.marked (s : State) : List PointNo := (List.finRange 512).filter fun m => (s.pt m).unlisted

theorem State.marked_nodup (s : State) : s.marked.Nodup := (List.nodup_finRange 512).filter _

theorem State.mem_marked {s : State} {m : PointNo} : m ∈ s.marked ↔ (s.pt m).unlisted = true := by
  simp [State.marked]

theorem State.first_unlisted (s : State) : (s.points.first fun x => x.unlisted) = s.marked.head? := by
  rw [Table.first_eq, State.marked, List.head?_filter]
  rfl

/-- The entries that `k` refills append: those of the `k` lowest-numbered marked points, with rising raise sequences
(R127, R130). -/
def State.refills (s : State) (k : Nat) : List CondEntry :=
  (s.marked.take k).mapIdx fun j m =>
    ⟨m, s.cond.raiseSeq + BitVec.ofNat 32 (j + 1), (s.pt m).level, (s.pt m).peak, false, 0⟩

section

variable (s : State) (k : Nat)

theorem State.refills_points : (s.refills k).map CondEntry.point = s.marked.take k := by
  apply List.ext_getElem <;> simp [State.refills]

theorem State.refills_succ_of_none (h : s.marked[k]? = none) : s.refills (k + 1) = s.refills k := by
  simp [State.refills, List.take_add_one, h]

theorem State.refills_succ_of_some {m : PointNo} (h : s.marked[k]? = some m) :
    s.refills (k + 1) = s.refills k
        ++ [⟨m, s.cond.raiseSeq + BitVec.ofNat 32 (k + 1), (s.pt m).level, (s.pt m).peak, false, 0⟩]
      ∧ (s.refills k).length = k := by
  obtain ⟨hk, -⟩ := List.getElem?_eq_some_iff.1 h
  have hlength : (s.marked.take k).length = k := by simp [hk.le]
  refine ⟨?_, by simp [State.refills, hk.le]⟩
  simp [State.refills, List.take_add_one, h, List.mapIdx_append, hlength]

theorem State.refills_fresh {f : CondEntry} (hf : f ∈ s.refills k) :
    f.level = (s.pt f.point).level ∧ f.peak = (s.pt f.point).peak ∧ f.acknowledged = false ∧ f.repeats = 0 := by
  obtain ⟨j, hj, rfl⟩ := List.mem_mapIdx.1 hf
  exact ⟨rfl, rfl, rfl, rfl⟩

theorem State.refills_seq {j : Nat} {f : CondEntry} (hf : (s.refills k)[j]? = some f) :
    f.seq = s.cond.raiseSeq + BitVec.ofNat 32 (j + 1) := by
  rw [State.refills, List.getElem?_mapIdx] at hf
  obtain ⟨m, -, rfl⟩ := Option.map_eq_some_iff.1 hf
  rfl

/-- The entries of a list that ACK_UPTO removes (R136). -/
def State.leaving (s : State) (es : List CondEntry) : List CondEntry := es.filter s.ackRemoves

/-- The entries of a list that ACK_UPTO keeps, acknowledged (R136). -/
def State.staying (s : State) (es : List CondEntry) : List CondEntry :=
  (es.filter fun f => !s.ackRemoves f).map CondEntry.acked

/-- The record of a point after the entries `done` were acknowledged: a removal sets its peak to NORMAL, a refill takes
its mark (R130, R133). -/
def State.ackedRecord (s : State) (done : List CondEntry) (m : PointNo) : Point :=
  { s.pt m with
    peak := if m ∈ (s.leaving done).map CondEntry.point then .normal else (s.pt m).peak
    unlisted := if m ∈ s.marked.take (s.leaving done).length then false else (s.pt m).unlisted }

end

/-- From `s` to `u` the entries `done` at the head of the list were acknowledged, and `todo` stands behind them: the
removals are made and each was followed by its refill (R136). -/
structure State.AckedTo (s u : State) (done todo : List CondEntry) : Prop where
  list : u.cond.list = s.staying done ++ todo ++ s.refills (s.leaving done).length
  raiseSeq : u.cond.raiseSeq = s.cond.raiseSeq + BitVec.ofNat 32 (s.refills (s.leaving done).length).length
  record : ∀ m, u.pt m = s.ackedRecord done m

theorem State.AckedTo.start (s : State) : s.AckedTo s [] s.cond.list where
  list := by simp [State.staying, State.leaving, State.refills]
  raiseSeq := by simp [State.leaving, State.refills]
  record m := by simp [State.ackedRecord, State.leaving]

section

variable {s u : State} {done todo : List CondEntry} {f : CondEntry}

theorem State.staying_append_kept (h : s.ackRemoves f = false) :
    s.staying (done ++ [f]) = s.staying done ++ [f.acked] ∧ s.leaving (done ++ [f]) = s.leaving done := by
  simp [State.staying, State.leaving, List.filter_append, h]

theorem State.staying_append_removed (h : s.ackRemoves f = true) :
    s.staying (done ++ [f]) = s.staying done ∧ s.leaving (done ++ [f]) = s.leaving done ++ [f] := by
  simp [State.staying, State.leaving, List.filter_append, h]

/-- A removal sets one more peak to NORMAL, and its refill may take one more mark. -/
theorem State.ackedRecord_append_removed (h : s.ackRemoves f = true) (m : PointNo) :
    s.ackedRecord (done ++ [f]) m = { s.ackedRecord done m with
      peak := if f.point = m then .normal else (s.ackedRecord done m).peak
      unlisted := if m ∈ s.marked.take ((s.leaving done).length + 1) then false else (s.pt m).unlisted } := by
  obtain ⟨-, hleaving⟩ := State.staying_append_removed (done := done) h
  have hlength : (s.leaving (done ++ [f])).length = (s.leaving done).length + 1 := by simp [hleaving]
  simp only [State.ackedRecord, hlength]
  congr 1
  by_cases e : f.point = m
  · simp [hleaving, e]
  · simp [hleaving, e, Ne.symm e]

theorem State.staying_points (s : State) (es : List CondEntry) :
    (s.staying es).map CondEntry.point = (es.filter fun f => !s.ackRemoves f).map CondEntry.point := by
  simp [State.staying, Function.comp_def, CondEntry.acked]

/-- A marked point has no entry (R128). -/
theorem State.MarkLaw.not_listed {s : State} (h : s.MarkLaw) {m : PointNo} (hm : m ∈ s.marked) :
    m ∉ s.cond.list.map CondEntry.point := by
  obtain ⟨-, hnone, -⟩ := h m (State.mem_marked.1 hm)
  rw [State.mem_points_iff, hnone]
  nofun

variable (h : s.AckedTo u done (f :: todo))

include h

theorem State.AckedTo.ackRemoves_eq : u.ackRemoves f = s.ackRemoves f := by
  simp [State.ackRemoves, h.record, State.ackedRecord]

/-- The marks left are those behind the ones that refills took. -/
theorem State.AckedTo.marked_eq : u.marked = s.marked.drop (s.leaving done).length := by
  have hmark (m : PointNo) : (u.pt m).unlisted
      = (decide (m ∉ s.marked.take (s.leaving done).length) && (s.pt m).unlisted) := by
    rw [h.record]
    by_cases hm : m ∈ s.marked.take (s.leaving done).length
    · simp [State.ackedRecord, hm]
    · simp [State.ackedRecord, hm]
  calc
    u.marked = (List.finRange 512).filter fun m =>
        decide (m ∉ s.marked.take (s.leaving done).length) && (s.pt m).unlisted :=
      List.filter_congr fun m _ => hmark m
    _ = s.marked.filter fun m => m ∉ s.marked.take (s.leaving done).length := List.filter_filter.symm
    _ = s.marked.drop (s.leaving done).length := filter_not_mem_take s.marked_nodup _

theorem State.AckedTo.first_unlisted :
    (u.points.first fun x => x.unlisted) = s.marked[(s.leaving done).length]? := by
  rw [State.first_unlisted, h.marked_eq, List.head?_drop]

variable (hlist : s.ConditionListLaw) (hmarks : s.MarkLaw) (hsplit : s.cond.list = done ++ f :: todo)

include hlist hmarks hsplit

theorem State.AckedTo.once : (u.cond.list.map CondEntry.point).Nodup := by
  obtain ⟨-, honce, -⟩ := hlist
  have hsub : ((s.staying done).map CondEntry.point ++ (f :: todo).map CondEntry.point).Sublist
      (s.cond.list.map CondEntry.point) := by
    rw [State.staying_points, hsplit, List.map_append]
    exact (List.filter_sublist.map _).append_right _
  rw [h.list, List.map_append, List.map_append, State.refills_points]
  refine (honce.sublist hsub).append (s.marked_nodup.sublist (List.take_sublist ..)) fun m hm htaken => ?_
  exact hmarks.not_listed (List.take_subset _ _ htaken) (hsub.subset hm)

/-- An entry that stays is acknowledged in its place. -/
theorem State.AckedTo.step_kept (hf : s.ackRemoves f = false) : s.AckedTo (u.ackEntry f) (done ++ [f]) todo := by
  obtain ⟨hstaying, hleaving⟩ := State.staying_append_kept (done := done) hf
  have hl : u.cond.list = s.staying done ++ f :: (todo ++ s.refills (s.leaving done).length) := by
    simp [h.list]
  rw [State.ackEntry_kept (h.ackRemoves_eq.trans hf), State.modEntry_of_split (h.once hlist hmarks hsplit) hl]
  refine ⟨?_, ?_, fun m => ?_⟩
  · simp [hstaying, hleaving]
  · rw [hleaving]
    exact h.raiseSeq
  · rw [State.ackedRecord, hleaving]
    exact h.record m

/-- Without the entry that leaves, the list keeps what stood before and behind it. -/
theorem State.AckedTo.dropped_list : (u.withoutEntry f.point).cond.list
    = s.staying done ++ todo ++ s.refills (s.leaving done).length := by
  have hl : u.cond.list = s.staying done ++ f :: (todo ++ s.refills (s.leaving done).length) := by
    simp [h.list]
  rw [List.append_assoc]
  exact State.dropEntry_of_split (h.once hlist hmarks hsplit) hl

/-- An entry that leaves when no mark is left. -/
theorem State.AckedTo.step_unmarked (hf : s.ackRemoves f = true)
    (hnext : s.marked[(s.leaving done).length]? = none) : s.AckedTo (u.ackEntry f) (done ++ [f]) todo := by
  obtain ⟨hstaying, hleaving⟩ := State.staying_append_removed (done := done) hf
  have hlength : (s.leaving (done ++ [f])).length = (s.leaving done).length + 1 := by simp [hleaving]
  have hno := (u.points.first_eq_none fun x => x.unlisted).1 (h.first_unlisted.trans hnext)
  have hall : s.marked.take ((s.leaving done).length + 1) = s.marked.take (s.leaving done).length := by
    simp [List.take_add_one, hnext]
  rw [State.ackEntry_removed (h.ackRemoves_eq.trans hf), State.removeEntry_unmarked hno]
  refine ⟨?_, ?_, fun m => ?_⟩
  · rw [h.dropped_list hlist hmarks hsplit, hlength, State.refills_succ_of_none _ _ hnext, hstaying]
  · rw [hlength, State.refills_succ_of_none _ _ hnext]
    exact h.raiseSeq
  · rw [State.withoutEntry_pt, State.ackedRecord_append_removed hf, hall]
    simp only [h.record]
    by_cases e : f.point = m
    · rw [if_pos e, if_pos e, e]
      rfl
    · rw [if_neg e, if_neg e]
      rfl

/-- An entry that leaves takes the lowest-numbered mark off, and the marked point's entry comes in at the tail. -/
theorem State.AckedTo.step_refilled {m : PointNo} (hf : s.ackRemoves f = true)
    (hnext : s.marked[(s.leaving done).length]? = some m) : s.AckedTo (u.ackEntry f) (done ++ [f]) todo := by
  obtain ⟨hstaying, hleaving⟩ := State.staying_append_removed (done := done) hf
  have hlength : (s.leaving (done ++ [f])).length = (s.leaving done).length + 1 := by simp [hleaving]
  obtain ⟨hm, hfirst⟩ := (u.points.first_eq_some (fun x => x.unlisted) m).1 (h.first_unlisted.trans hnext)
  obtain ⟨hrefills, hcount⟩ := s.refills_succ_of_some _ hnext
  have hunlisted := hmarks.not_listed (List.mem_of_getElem? hnext)
  have hne : f.point ≠ m := fun e => hunlisted (by simp [hsplit, e])
  have hstays : m ∉ (s.leaving done).map CondEntry.point := fun hgone => hunlisted <| by
    rw [hsplit, List.map_append]
    exact List.mem_append_left _ ((List.filter_sublist.map _).subset hgone)
  have hlevel : (u.pt m).level = (s.pt m).level ∧ (u.pt m).peak = (s.pt m).peak := by
    simp [h.record, State.ackedRecord, hstays]
  have hseq : u.cond.raiseSeq + 1#32 = s.cond.raiseSeq + BitVec.ofNat 32 ((s.leaving done).length + 1) := by
    rw [h.raiseSeq, hcount, BitVec.add_assoc, ← BitVec.ofNat_add]
  have hall : s.marked.take ((s.leaving done).length + 1) = s.marked.take (s.leaving done).length ++ [m] := by
    simp [List.take_add_one, hnext]
  rw [State.ackEntry_removed (h.ackRemoves_eq.trans hf), State.removeEntry_first hne hm hfirst, hlevel.1, hlevel.2]
  refine ⟨?_, ?_, fun j => ?_⟩
  · rw [hlength, hrefills, hstaying, ← hseq, ← List.append_assoc, ← h.dropped_list hlist hmarks hsplit]
    rfl
  · rw [hlength, hrefills, List.length_append, hcount]
    exact hseq
  · rw [State.ackedRecord_append_removed hf, hall, State.setPt_pt]
    by_cases e : m = j
    · subst e
      simp [h.record, hne]
    · rw [if_neg e]
      refine (State.withoutEntry_pt u f.point j).trans ?_
      simp only [h.record, List.mem_append, List.mem_singleton, Ne.symm e, or_false]
      by_cases e' : f.point = j
      · rw [if_pos e', if_pos e', e']
        rfl
      · rw [if_neg e', if_neg e']
        rfl

end

/-- The walk from the head over a part of the list (R136). -/
theorem State.AckedTo.walk {s u : State} (hlist : s.ConditionListLaw) (hmarks : s.MarkLaw)
    {done es post : List CondEntry} (h : s.AckedTo u done (es ++ post)) (hsplit : s.cond.list = done ++ (es ++ post)) :
    s.AckedTo (es.foldl State.ackEntry u) (done ++ es) post := by
  induction es generalizing u done with
  | nil => simpa using h
  | cons f es ih =>
    have hstep : s.AckedTo (u.ackEntry f) (done ++ [f]) (es ++ post) := by
      cases hf : s.ackRemoves f with
      | false => exact h.step_kept hlist hmarks hsplit hf
      | true =>
        cases hnext : s.marked[(s.leaving done).length]? with
        | none => exact h.step_unmarked hlist hmarks hsplit hf hnext
        | some m => exact h.step_refilled hlist hmarks hsplit hf hnext
    rw [List.append_cons]
    exact ih hstep (by simp [hsplit])

theorem ackRange_eq_none {es : List CondEntry} {seq : BitVec 32} (h : ∀ e ∈ es, e.seq ≠ seq) :
    ackRange es seq = none := by
  have hfind : es.findIdx? (fun e => e.seq == seq) = none := List.findIdx?_eq_none_iff.2 (by simpa using h)
  rw [ackRange, hfind]
  rfl

theorem ackRange_of_split {pre post : List CondEntry} {e : CondEntry} {seq : BitVec 32} (he : e.seq = seq)
    (hpre : ∀ f ∈ pre, f.seq ≠ seq) : ackRange (pre ++ e :: post) seq = some (pre ++ [e]) := by
  have hfind : pre.findIdx? (fun e => e.seq == seq) = none := List.findIdx?_eq_none_iff.2 (by simpa using hpre)
  simp [ackRange, List.findIdx?_append, hfind, List.findIdx?_cons, he, List.take_append]

theorem ackUptoRule_notListed {ps : List Byte} {s : State} (h : ackRange s.cond.list (wordAt32 ps 0) = none) :
    ackUptoRule ps s = refuse .notListed s := by
  rw [ackUptoRule, h]

theorem ackUptoRule_walked {ps : List Byte} {s : State} {es : List CondEntry}
    (h : ackRange s.cond.list (wordAt32 ps 0) = some es) :
    ackUptoRule ps s = accept [byteOf (es.countP fun e => !e.acknowledged), byteOf (es.countP s.ackRemoves)]
      (es.foldl State.ackEntry s) := by
  rw [ackUptoRule, h]

/-- Settles O39: the walk keeps, entry by entry, what the entries behind it have come to and how many refills were
made. -/
theorem ackUptoWalksFromTheHead : Obligations.AckUptoWalksFromTheHead := by
  intro p ps s ht hw hlen hlist hmarks
  have answers {st data t} := exec_row_answered (p := p) (st := st) (data := data) (t := t) ht (refusalOfMode_works hw)
    (decide_eq_true hlen)
  refine ⟨fun hno => answers (ackUptoRule_notListed (ackRange_eq_none hno)), ?_⟩
  intro pre post e hl he hpre range goes gone marked taken
  have hrange : ackRange s.cond.list (wordAt32 ps 0) = some range := hl ▸ ackRange_of_split he hpre
  have hacked : s.AckedTo (range.foldl State.ackEntry s) range post := by
    have hsplit : s.cond.list = range ++ post := by simp [hl, range]
    exact State.AckedTo.walk (done := []) hlist hmarks (hsplit ▸ .start s) hsplit
  have hnew : range.countP (fun f => !f.acknowledged) = (range.filter fun f => f.acknowledged = false).length := by
    rw [List.countP_eq_length_filter]
    congr 2
    funext f
    cases f.acknowledged <;> rfl
  have hgone : range.countP s.ackRemoves = gone.length := List.countP_eq_length_filter
  refine ⟨range.foldl State.ackEntry s, s.refills gone.length, answers ((ackUptoRule_walked hrange).trans ?_),
    (s.conditionMoves_ackEntries range).frame, hacked.list, s.refills_points _, fun f => s.refills_fresh _,
    fun k f => s.refills_seq _, hacked.raiseSeq, hacked.record⟩
  rw [hnew, hgone]
  rfl

end Sys2Proof.Machine

/-! SUPPORT. Holds and change sets: who is refused by a hold, what HOLD, RELEASE and READ_CHANGED answer, and what no
command takes from a point that the other port holds. The statements on HOLD and RELEASE, on READ_CHANGED and on the
guard of a hold are settled here. -/

namespace Sys2Proof.Machine

/-! ### The hold table (R145, R146, R148) -/

/-- A list with one element that passes a test finds that one. -/
theorem find?_eq_some_of_unique {α : Type} {l : List α} {q : α → Bool} {a : α} (ha : a ∈ l) (hq : q a = true)
    (hone : ∀ b ∈ l, q b = true → b = a) : l.find? q = some a := by
  cases hf : l.find? q with
  | none => exact absurd hq (List.find?_eq_none.1 hf a ha)
  | some b => rw [hone b (List.mem_of_find?_eq_some hf) (List.find?_some hf)]

section

variable {s : State} {h : HoldRecord}

/-- At most one record holds a point (R145). -/
theorem State.HoldLaw.eq_of_point {k : HoldRecord} (hs : s.HoldLaw) (hk : k ∈ s.holds) (hh : h ∈ s.holds)
    (hpoint : k.point = h.point) : k = h := by
  obtain ⟨-, honce, -⟩ := hs
  exact List.inj_on_of_nodup_map honce hk hh hpoint

/-- The hold of the other port is the one that refuses a port (R148). -/
theorem State.blockingHold_of_mem {p : CmdPort} (hs : s.HoldLaw) (hh : h ∈ s.holds) (hp : h.port ≠ p) :
    s.blockingHold p h.point = some h :=
  find?_eq_some_of_unique hh (by simp [hp]) fun k hk hq =>
    hs.eq_of_point hk hh (by simp at hq; exact hq.1)

/-- A port is refused by no hold exactly where every hold on the point is its own (R148). -/
theorem State.blockingHold_eq_none {p : CmdPort} {n : PointNo} :
    s.blockingHold p n = none ↔ ∀ k ∈ s.holds, k.point = n → k.port = p := by
  simp [State.blockingHold]

theorem State.holdOn_eq_none {n : PointNo} : s.holdOn n = none ↔ ∀ k ∈ s.holds, k.point ≠ n := by
  simp [State.holdOn]

end

/-- The reported time is the least number of whole milliseconds, at least 1, that covers the time left (R146). -/
theorem reportedTime_spec (left : Nat) :
    1 ≤ reportedTime left ∧ left ≤ 100 * reportedTime left
      ∧ (reportedTime left ≠ 1 → 100 * (reportedTime left - 1) < left) := by
  simp only [reportedTime, Config.holdUnit]
  omega

/-! ### HOLD and RELEASE (R147, R150) -/

theorem State.forgetExpired_eq (s : State) (p : CmdPort) (n : PointNo) :
    s.forgetExpired p n = { s with cmdPorts := s.cmdPorts.set p { s.cmd p with
      lastExpired := if (s.cmd p).lastExpired = some n then none else (s.cmd p).lastExpired } } := by
  by_cases h : (s.cmd p).lastExpired = some n <;> simp [State.forgetExpired, State.modCmd, State.setCmd, h]

section

variable {p : CmdPort} {ps : List Byte} {s : State} {n : PointNo}

/-! HOLD's own rule, outcome by outcome, in the order of its checks (R147). -/

theorem holdRule_badParam (hn : s.resolve (selectorAt ps 0) = .ok n) (h0 : numAt ps 5 = 0) :
    holdRule p ps s = refuse .badParam s := by
  rw [holdRule, withPoint_ok hn]
  exact if_pos h0

theorem holdRule_held (hn : s.resolve (selectorAt ps 0) = .ok n) (h0 : numAt ps 5 ≠ 0) {h : HoldRecord}
    (hb : s.blockingHold p n = some h) : holdRule p ps s = (⟨.held, [byteOf (reportedTime h.left)]⟩, s) := by
  rw [holdRule, withPoint_ok hn]
  exact (if_neg h0).trans (unlessHeld_some hb)

theorem holdRule_renewed (hn : s.resolve (selectorAt ps 0) = .ok n) (h0 : numAt ps 5 ≠ 0)
    (hb : s.blockingHold p n = none) {h : HoldRecord} (hh : s.holdOn n = some h) :
    holdRule p ps s = accept (holdData true n (numAt ps 5))
      ((s.setHolds (renewedHolds s.holds n (numAt ps 5 * Config.holdUnit))).forgetExpired p n) := by
  rw [holdRule, withPoint_ok hn]
  refine (if_neg h0).trans ((unlessHeld_none hb).trans ?_)
  simp [hh]

theorem holdRule_noHoldSpace (hn : s.resolve (selectorAt ps 0) = .ok n) (h0 : numAt ps 5 ≠ 0)
    (hb : s.blockingHold p n = none) (hh : s.holdOn n = none) (hfull : Config.holdCapacity ≤ s.holds.length) :
    holdRule p ps s = refuse .noHoldSpace s := by
  rw [holdRule, withPoint_ok hn]
  refine (if_neg h0).trans ((unlessHeld_none hb).trans ?_)
  simp [hh, hfull]

theorem holdRule_created (hn : s.resolve (selectorAt ps 0) = .ok n) (h0 : numAt ps 5 ≠ 0)
    (hb : s.blockingHold p n = none) (hh : s.holdOn n = none) (hroom : s.holds.length < Config.holdCapacity) :
    holdRule p ps s = accept (holdData false n (numAt ps 5))
      ((s.setHolds (s.holds ++ [⟨p, n, numAt ps 5 * Config.holdUnit⟩])).forgetExpired p n) := by
  rw [holdRule, withPoint_ok hn]
  refine (if_neg h0).trans ((unlessHeld_none hb).trans ?_)
  simp [hh, hroom]

/-! RELEASE's own rule, outcome by outcome (R150). -/

/-- The port's own hold on a point. -/
theorem releaseRule_own (hn : s.resolve (selectorAt ps 0) = .ok n) (hs : s.HoldLaw) {h : HoldRecord}
    (hh : h ∈ s.holds) (hpoint : h.point = n) (hport : h.port = p) :
    releaseRule p ps s =
      accept [byteOf (reportedTime h.left)] (s.setHolds (s.holds.filter fun k => k.point ≠ n)) := by
  have hfound : (s.holds.find? fun k => k.point = n ∧ k.port = p) = some h :=
    find?_eq_some_of_unique hh (by simp [hpoint, hport]) fun k hk hq =>
      hs.eq_of_point hk hh (by simp at hq; exact hq.1.trans hpoint.symm)
  have hgone : (s.holds.filter fun k => ¬(k.point = n ∧ k.port = p)) = s.holds.filter fun k => k.point ≠ n :=
    List.filter_congr fun k hk => by
      have howner (hkn : k.point = n) : k.port = p := by
        rw [hs.eq_of_point hk hh (hkn.trans hpoint.symm), hport]
      exact decide_eq_decide.2 ⟨fun hne hkn => hne ⟨hkn, howner hkn⟩, fun hne hown => hne hown.1⟩
  rw [releaseRule, withPoint_ok hn, hfound, ← hgone]

/-- No hold of the port: what its last-expired-hold record says decides (R151). -/
theorem releaseRule_none (hn : s.resolve (selectorAt ps 0) = .ok n)
    (hother : ∀ h ∈ s.holds, h.point = n → h.port ≠ p) :
    releaseRule p ps s =
      if (s.cmd p).lastExpired = some n then (⟨.expired, []⟩, s.forgetExpired p n) else refuse .notHeld s := by
  have hnone : (s.holds.find? fun k => k.point = n ∧ k.port = p) = none := by simpa using hother
  rw [releaseRule, withPoint_ok hn, hnone]

end

/-- Settles O20: each outcome of the two rules, with the record of the last expired hold as `forgetExpired` leaves
it. -/
theorem holdAndRelease : Obligations.HoldAndRelease := by
  intro p ps s n hw hs hn forgotten time
  have ⟨hsize, honce, _⟩ := hs
  have hforget (holds : List HoldRecord) :
      (s.setHolds holds).forgetExpired p n = { s with holds := holds, cmdPorts := forgotten } :=
    State.forgetExpired_eq ..
  have held {st data t} (ht : s.Takes .hold p ps) (hl : ps.length = 6) :=
    exec_row_answered (st := st) (data := data) (t := t) ht (refusalOfMode_works hw) (decide_eq_true hl)
  have released {st data t} (ht : s.Takes .release p ps) (hl : ps.length = 5) :=
    exec_row_answered (st := st) (data := data) (t := t) ht (refusalOfMode_works hw) (decide_eq_true hl)
  have hunit : numAt ps 5 * Config.holdUnit = 100 * time := Nat.mul_comm ..
  refine ⟨fun ht hl h0 => held ht hl (holdRule_badParam hn h0), ?renewed, ?created, ?released, ?unheld⟩
  case renewed =>
    intro ht hl h0 h hh hpoint hport
    have hone (k : HoldRecord) (hk : k ∈ s.holds) (hkn : k.point = n) : k.port = p := by
      rw [hs.eq_of_point hk hh (hkn.trans hpoint.symm), hport]
    have hon : s.holdOn n = some h := hpoint ▸ State.holdOn_of_mem honce hh
    refine held ht hl ((holdRule_renewed hn h0 (State.blockingHold_eq_none.2 hone) hon).trans ?_)
    rw [hforget, hunit]
    rfl
  case created =>
    intro ht hl h0 hfree
    have hb : s.blockingHold p n = none := State.blockingHold_eq_none.2 fun k hk hkn => absurd hkn (hfree k hk)
    have hon : s.holdOn n = none := State.holdOn_eq_none.2 hfree
    refine ⟨fun hfull => held ht hl (holdRule_noHoldSpace hn h0 hb hon hfull.ge), fun hroom => ?_⟩
    refine held ht hl ((holdRule_created hn h0 hb hon (hsize.lt_of_ne hroom)).trans ?_)
    rw [hforget, hunit]
    rfl
  case released => exact fun ht hl h hh hpoint hport => released ht hl (releaseRule_own hn hs hh hpoint hport)
  case unheld =>
    intro ht hl hother
    have hrule := releaseRule_none hn hother
    refine ⟨fun he => released ht hl (hrule.trans ?_), fun he => released ht hl (hrule.trans (if_neg he))⟩
    rw [if_pos he, State.forgetExpired_eq]

/-! ### READ_CHANGED (R157, R158) -/

/-- The numbers from `k` on are those behind the first `k`, and the numbers below `k` are the first `k`. -/
theorem filter_finRange_split {n : Nat} (k : Nat) :
    ((List.finRange n).filter fun i => decide (k ≤ i.val)) = (List.finRange n).drop k
      ∧ ((List.finRange n).filter fun i => decide (i.val < k)) = (List.finRange n).take k := by
  have htake : ∀ i ∈ (List.finRange n).take k, i.val < k := by
    intro i hi
    obtain ⟨j, hj, rfl⟩ := List.mem_take_iff_getElem.1 hi
    simp at hj ⊢
    omega
  have hdrop : ∀ i ∈ (List.finRange n).drop k, k ≤ i.val := by
    intro i hi
    obtain ⟨j, hj, rfl⟩ := List.mem_drop_iff_getElem.1 hi
    simp
  have hsplit (q : Fin n → Bool) : (List.finRange n).filter q
      = ((List.finRange n).take k).filter q ++ ((List.finRange n).drop k).filter q := by
    rw [← List.filter_append, List.take_append_drop]
  constructor
  · rw [hsplit, List.filter_eq_nil_iff.2 (by simpa using htake), List.filter_eq_self.2 (by simpa using hdrop),
      List.nil_append]
  · rw [hsplit, List.filter_eq_self.2 (by simpa using htake), List.filter_eq_nil_iff.2 (by simpa using hdrop),
      List.append_nil]

/-- The read order goes up from one above the cursor and round to the cursor (R157). -/
theorem ChangeSet.inReadOrder_eq (c : ChangeSet) :
    c.inReadOrder = ((List.finRange 512).rotate (c.cursor.val + 1)).filter fun n => c.members.get n := by
  have habove : ((List.finRange 512).filter fun n => decide (c.cursor < n))
      = (List.finRange 512).drop (c.cursor.val + 1) := (filter_finRange_split _).1
  have hupTo : ((List.finRange 512).filter fun n => decide (n ≤ c.cursor))
      = (List.finRange 512).take (c.cursor.val + 1) := by
    simp only [Fin.le_def, ← Nat.lt_succ_iff]
    exact (filter_finRange_split _).2
  have hlen : c.cursor.val + 1 ≤ (List.finRange 512).length := by
    rw [List.length_finRange]
    exact c.cursor.isLt
  unfold ChangeSet.inReadOrder
  rw [List.rotate_eq_drop_append_take hlen, List.filter_append, ← habove, ← hupTo, Table.indices_eq]
  exact congrArg₂ (· ++ ·) (List.filter_comm ..) (List.filter_comm ..)

theorem ChangeSet.inReadOrder_nodup (c : ChangeSet) : c.inReadOrder.Nodup := by
  rw [ChangeSet.inReadOrder_eq]
  exact (List.nodup_rotate.2 (List.nodup_finRange 512)).filter _

/-- A table with one thing written at each number of a list. -/
theorem Table.get_foldl_set {α : Type} {n : Nat} (l : List (Fin n)) (t : Table α n) (x : α) (i : Fin n) :
    (l.foldl (fun t j => t.set j x) t).get i = if i ∈ l then x else t.get i := by
  induction l generalizing t with
  | nil => simp
  | cons j l ih =>
    rw [List.foldl_cons, ih, Table.get_set]
    by_cases hij : j = i
    · simp [hij]
    · simp [hij, Ne.symm hij]

/-- The points returned leave the set, and no other point does (R158). -/
theorem ChangeSet.afterRead_get (c : ChangeSet) (ns : List PointNo) (n : PointNo) :
    (c.afterRead ns).members.get n = (decide (n ∉ ns) && c.members.get n) := by
  rw [ChangeSet.afterRead, Table.get_foldl_set]
  by_cases h : n ∈ ns <;> simp [h]

/-- The members left after a read are those behind the ones returned (R158). -/
theorem ChangeSet.afterRead_count (c : ChangeSet) (most : Nat) :
    ((c.afterRead (c.inReadOrder.take most)).members.count fun b => b)
      = c.inReadOrder.length - (c.inReadOrder.take most).length := by
  have hround := List.rotate_perm (List.finRange 512) (c.cursor.val + 1)
  have hleft (ns : List PointNo) : (c.inReadOrder.filter fun n => n ∉ ns)
      = ((List.finRange 512).rotate (c.cursor.val + 1)).filter fun n => decide (n ∉ ns) && c.members.get n := by
    rw [c.inReadOrder_eq, List.filter_filter]
  calc
    _ = ((List.finRange 512).filter fun n => decide (n ∉ c.inReadOrder.take most) && c.members.get n).length := by
      simp only [Table.count_eq, ChangeSet.afterRead_get]
    _ = (c.inReadOrder.filter fun n => n ∉ c.inReadOrder.take most).length := by
      rw [hleft]
      exact (hround.filter _).length_eq.symm
    _ = (c.inReadOrder.drop most).length := by rw [filter_not_mem_take c.inReadOrder_nodup]
    _ = c.inReadOrder.length - (c.inReadOrder.take most).length := by
      rw [List.length_drop, List.length_take]
      omega

section

variable {p : CmdPort} {ps : List Byte} {s : State}

theorem readChangedRule_badParam (h : numAt ps 0 = 0 ∨ 8 < numAt ps 0) :
    readChangedRule p ps s = refuse .badParam s := if_pos h

theorem readChangedRule_accepted (h1 : 1 ≤ numAt ps 0) (h8 : numAt ps 0 ≤ 8) {ns : List PointNo}
    (hns : (s.changed.get p).inReadOrder.take (numAt ps 0) = ns) :
    readChangedRule p ps s = accept
      ([byteOf ns.length] ++ num16 ((s.changed.get p).inReadOrder.length - ns.length)
        ++ ns.flatMap fun n => changedData n (s.pt n))
      (s.setChanged (s.changed.set p ((s.changed.get p).afterRead ns))) := by
  subst hns
  rw [← ChangeSet.afterRead_count]
  exact if_neg (by omega)

end

theorem otherPort_ne (p : CmdPort) : p ≠ otherPort p := by cases p <;> decide

/-- Settles O19: the read order is the round of the numbers from one above the cursor. -/
theorem readChangedGoesRound : Obligations.ReadChangedGoesRound := by
  intro p ps s ht hl most order ns
  have answers {st data t} := exec_row_answered (c := .readChanged) (p := p) (st := st) (data := data) (t := t) ht
    (refusalOfMode_always _) (decide_eq_true hl)
  have horder : (s.changed.get p).inReadOrder = order := ChangeSet.inReadOrder_eq _
  refine ⟨fun hbad => answers (readChangedRule_badParam hbad), fun h1 h8 => ?_⟩
  refine ⟨s.setChanged (s.changed.set p ((s.changed.get p).afterRead ns)), answers ?_, rfl, ?_, ?_, fun n => ?_⟩
  · rw [ruleOf, readChangedRule_accepted h1 h8 (ns := ns) (by rw [horder]), horder]
    rfl
  · exact Both.get_set_ne _ _ (otherPort_ne p)
  · rw [State.setChanged_changed, Both.get_set_self]
    rfl
  · have hread : (s.setChanged (s.changed.set p ((s.changed.get p).afterRead ns))).isChanged p n
        = (decide (n ∉ ns) && s.isChanged p n) := by
      rw [State.isChanged, State.setChanged_changed, Both.get_set_self]
      exact ChangeSet.afterRead_get ..
    simp [hread, and_comm]

/-! ### The hold check of EDIT, ACTIVATE, PARK, UNPARK, RETIRE and HOLD (R148) -/

/-- Each of these commands, on a point that the other port holds, is answered HELD by its own rule. -/
theorem ruleOf_held {c : Cmd} {p : CmdPort} {ps : List Byte} {s : State} {n : PointNo} {h : HoldRecord}
    (hc : c ∈ [Cmd.edit, .activate, .park, .unpark, .retire, .hold]) (hn : s.resolve (selectorAt ps 0) = .ok n)
    (hb : s.blockingHold p n = some h) (h0 : c = .hold → numAt ps 5 ≠ 0) :
    ruleOf c p ps s = (⟨.held, [byteOf (reportedTime h.left)]⟩, s) := by
  have hchecked (rule : PointNo → State → Answer × State) :
      withPoint ps 0 (fun n => unlessHeld p n (rule n)) s = (⟨.held, [byteOf (reportedTime h.left)]⟩, s) :=
    (withPoint_ok hn).trans (unlessHeld_some hb)
  simp only [List.mem_cons, List.not_mem_nil, or_false] at hc
  rcases hc with rfl | rfl | rfl | rfl | rfl | rfl
  exacts [hchecked _, hchecked _, hchecked _, hchecked _, hchecked _, holdRule_held hn (h0 rfl) hb]

theorem admissionOf_holdChecked {c : Cmd} (hc : c ∈ [Cmd.edit, .activate, .park, .unpark, .retire, .hold]) :
    admissionOf c = .settledModes := by
  revert c
  decide

/-! ### What leaves a held point alone (R148) -/

/-- From `s` to `t` a hold stays, and the point it is on keeps its tag, its state and its revision. -/
structure State.Spares (s : State) (h : HoldRecord) (t : State) : Prop where
  hold : h ∈ s.holds → h ∈ t.holds
  tag : (t.pt h.point).tag = (s.pt h.point).tag
  state : (t.pt h.point).state = (s.pt h.point).state
  revision : (t.pt h.point).revision = (s.pt h.point).revision

section

variable {s t u : State} {h : HoldRecord}

/-- A step that leaves the holds and the records. -/
theorem State.Spares.of_eq (hholds : t.holds = s.holds) (hpt : t.pt = s.pt) : s.Spares h t :=
  ⟨fun hh => hholds ▸ hh, by rw [hpt], by rw [hpt], by rw [hpt]⟩

theorem State.Spares.refl (s : State) (h : HoldRecord) : s.Spares h s := .of_eq rfl rfl

theorem State.Spares.trans (hst : s.Spares h t) (htu : t.Spares h u) : s.Spares h u :=
  ⟨htu.hold ∘ hst.hold, htu.tag.trans hst.tag, htu.state.trans hst.state, htu.revision.trans hst.revision⟩

theorem EngineKeeps.spares (hst : EngineKeeps s t) (h : HoldRecord) : s.Spares h t := by
  obtain ⟨hstate, htag, hrevision, -⟩ := hst.points h.point
  exact ⟨fun hh => hst.holds ▸ hh, htag, hstate, hrevision⟩

theorem State.ConditionMoves.spares (hst : s.ConditionMoves t) (h : HoldRecord) : s.Spares h t :=
  ⟨fun hh => by rw [hst.frame]; exact hh, by rw [hst.record], by rw [hst.record], by rw [hst.record]⟩

theorem State.Spares.settle (hst : s.Spares h t) : s.Spares h t.settle := hst.trans (t.settle_keeps.spares h)

/-- A write of another record. -/
theorem State.Spares.modPt_elsewhere {n : PointNo} {f : Point → Point} (hn : n ≠ h.point) :
    s.Spares h (s.modPt n f) := by
  have hpt := s.modPt_pt_ne f hn
  exact ⟨id, by rw [hpt], by rw [hpt], by rw [hpt]⟩

theorem State.Spares.modScan (s : State) (h : HoldRecord) (f : Scan → Scan) : s.Spares h (s.modScan f) :=
  .of_eq rfl rfl

theorem State.Spares.setHolds {holds : List HoldRecord} (hh : h ∈ s.holds → h ∈ holds) :
    s.Spares h (s.setHolds holds) := ⟨hh, rfl, rfl, rfl⟩

end

section

variable (s : State) (h : HoldRecord)

theorem State.setNext_spares (n : PointNo) (next : Option PointNo) : s.Spares h (s.setNext n next) := by
  refine ⟨id, ?_, ?_, ?_⟩
  all_goals
    rw [State.setNext_pt]
    split
    · subst_vars; rfl
    · rfl

theorem State.unlink_spares (n : PointNo) : s.Spares h (s.unlink n) := by
  have hhead (b : Byte) (m : Option PointNo) : s.Spares h (s.setHead b m) := .of_eq rfl rfl
  unfold State.unlink
  simp only
  split
  · exact (hhead ..).trans (State.setNext_spares ..)
  · split
    · exact (State.setNext_spares ..).trans (State.setNext_spares ..)
    · exact State.setNext_spares ..

theorem State.link_spares (n : PointNo) (t : Tag) : s.Spares h (s.link n t) :=
  (State.setNext_spares ..).trans (.of_eq rfl rfl)

theorem State.withdraw_spares (o : Origin) : s.Spares h (s.withdraw o) :=
  .of_eq (by rw [State.withdraw_frame]) (s.withdraw_pt o)

theorem State.halt_spares : s.Spares h s.halt := by
  have hroutine : s.Spares h s.haltRoutine := by
    unfold State.haltRoutine
    split
    · exact (s.withdraw_spares h .routine).trans ((EngineKeeps.passEnd _ true).spares h)
    · exact ((EngineKeeps.promote s).spares h).trans (.modScan ..)
    · exact .of_eq rfl rfl
  rw [State.halt_eq, State.abortRun]
  split
  · exact hroutine.trans ((State.withdraw_spares _ h .priority).trans (.modScan ..))
  · exact hroutine

end

theorem accept_spares {data : List Byte} {s t : State} {h : HoldRecord} (hst : s.Spares h t) :
    s.Spares h (accept data t).2 := hst

/-! ### Rules of commands that name no point, or leave its record alone -/

section

variable (p : CmdPort) (ps : List Byte) (s : State) (h : HoldRecord)

theorem readProfileRule_spares : s.Spares h (readProfileRule ps s).2 :=
  withPoint_keeps (P := s.Spares h) (.refl s h) fun n => by split <;> exact .refl s h

theorem readValueRule_spares : s.Spares h (readValueRule ps s).2 :=
  withPoint_keeps (P := s.Spares h) (.refl s h) fun _ => .refl s h

theorem readChangedRule_spares : s.Spares h (readChangedRule p ps s).2 := by
  unfold readChangedRule
  simp only
  split <;> exact .of_eq rfl rfl

theorem rlistInsertRule_spares : s.Spares h (rlistInsertRule ps s).2 :=
  withPoint_keeps (P := s.Spares h) (.refl s h) fun n => by
    simp only
    split
    · exact .refl s h
    split
    · exact .refl s h
    split <;> exact .of_eq rfl rfl

theorem rlistRemoveRule_spares : s.Spares h (rlistRemoveRule ps s).2 :=
  withPoint_keeps (P := s.Spares h) (.refl s h) fun n => by split <;> exact .of_eq rfl rfl

theorem plistSetRule_spares : s.Spares h (plistSetRule ps s).2 := by
  unfold plistSetRule
  split
  · exact .refl s h
  split
  · exact .refl s h
  split
  · exact .refl s h
  split <;> exact .of_eq rfl rfl

theorem scanStartRule_spares : s.Spares h (scanStartRule ps s).2 := by
  unfold scanStartRule
  split
  · exact .refl s h
  split
  · exact State.Spares.settle (.of_eq rfl rfl)
  · exact .refl s h

theorem State.stopScan_spares : s.Spares h s.stopScan := by
  unfold State.stopScan
  split
  · exact .of_eq rfl rfl
  · exact (((EngineKeeps.promote s).spares h).trans (.modScan ..)).settle
  · exact .refl s h

theorem skipPassRule_spares : s.Spares h (skipPassRule s).2 := by
  unfold skipPassRule
  split
  · exact (s.withdraw_spares h .routine).settle
  · exact .refl s h

theorem State.requestRun_spares : s.Spares h s.requestRun := by
  unfold State.requestRun
  split
  · split <;> exact .of_eq rfl rfl
  · exact State.Spares.settle (.of_eq rfl rfl)

theorem abortPointRule_spares : s.Spares h (abortPointRule ps s).2 :=
  withPoint_keeps (P := s.Spares h) (.refl s h) fun n => by
    split
    · exact .refl s h
    · exact State.Spares.settle (.of_eq rfl rfl)

theorem scanConfigRule_spares : s.Spares h (scanConfigRule ps s).2 := by
  unfold scanConfigRule
  split
  · exact .refl s h
  split <;> exact .of_eq rfl rfl

theorem ackRule_spares : s.Spares h (ackRule ps s).2 :=
  withPoint_keeps (P := s.Spares h) (.refl s h) fun n => by
    split
    · exact .refl s h
    · exact (s.conditionMoves_ackEntry _).spares h

theorem ackUptoRule_spares : s.Spares h (ackUptoRule ps s).2 := by
  unfold ackUptoRule
  split
  · exact .refl s h
  · exact (s.conditionMoves_ackEntries _).spares h

theorem condClearRule_spares : s.Spares h (condClearRule ps s).2 :=
  withPoint_keeps (P := s.Spares h) (.refl s h) fun n => by
    split
    · exact .refl s h
    split
    · exact accept_spares ((s.conditionMoves_removeEntry n).spares h)
    · exact .refl s h

theorem portConfigRule_spares : s.Spares h (portConfigRule ps s).2 := by
  unfold portConfigRule
  split
  · split
    · exact .refl s h
    split
    · exact .refl s h
    · exact State.Spares.settle (.of_eq rfl rfl)
  · exact .refl s h

theorem portRestoreRule_spares : s.Spares h (portRestoreRule ps s).2 := by
  unfold portRestoreRule
  split
  · exact .refl s h
  split
  · exact State.Spares.settle (.of_eq rfl rfl)
  · exact .refl s h

theorem portStatusRule_spares : s.Spares h (portStatusRule ps s).2 := by
  unfold portStatusRule
  split
  · simp only [accept]
    split <;> exact .of_eq rfl rfl
  · exact .refl s h

theorem clearFlagsRule_spares : s.Spares h (clearFlagsRule ps s).2 := by
  unfold clearFlagsRule
  split <;> exact .of_eq rfl rfl

theorem attnMaskRule_spares : s.Spares h (attnMaskRule ps s).2 := by
  unfold attnMaskRule
  split <;> exact .of_eq rfl rfl

theorem enterQuietRule_spares : s.Spares h (enterQuietRule s).2 := by
  have hentry : s.Spares h s.enterQuiet := by
    have hall : s.Spares h s.withdrawAll := (s.halt_spares h).trans (.of_eq rfl rfl)
    unfold State.enterQuiet
    split <;> exact hall.trans (.of_eq rfl rfl)
  unfold enterQuietRule
  split
  · exact .refl s h
  split
  · exact .refl s h
  · exact hentry

theorem exitQuietRule_spares : s.Spares h (exitQuietRule s).2 := by
  have hexit : s.Spares h s.exitQuiet := by
    unfold State.exitQuiet
    split <;> exact .of_eq rfl rfl
  unfold exitQuietRule
  split
  · exact hexit
  · exact .refl s h

end

/-! ### Rules of commands that write a record's identity or the hold table -/

section

variable {p : CmdPort} {ps : List Byte} {s : State} {h : HoldRecord}

/-- DEFINE takes a FREE record, and no FREE record is held (R12, R145). -/
theorem defineRule_spares (hs : s.HoldLaw) (hh : h ∈ s.holds) : s.Spares h (defineRule ps s).2 := by
  unfold defineRule
  simp only
  split
  · exact .refl s h
  split
  · exact .refl s h
  split
  · exact .refl s h
  · rename_i n hn
    have hfree : (s.pt n).state = .free := beq_iff_eq.1 ((Table.first_eq_some ..).1 hn).1
    obtain ⟨-, -, hnamed⟩ := hs
    have hne : n ≠ h.point := by
      rintro rfl
      exact nomatch (hfree ▸ hnamed h hh)
    exact (State.Spares.modPt_elsewhere (f := fun _ => _) hne).trans (State.link_spares ..)

/-- The retirement of another point: its own record and its own hold go, and of other records only the link of the
chain and the mark of a refill are written (R17, R18). -/
theorem State.retirePoint_spares {n : PointNo} (hne : n ≠ h.point) : s.Spares h (s.retirePoint n) := by
  let t := ((s.unlink n).modPt n retiredRecord).modScan fun c => c.without n
  have hrecord : s.Spares h t := ((s.unlink_spares h n).trans (.modPt_elsewhere hne)).trans (.modScan ..)
  have hentry : t.ConditionMoves (t.retireEntry n) := t.conditionMoves_retireEntry n
  have hkept (hu : h ∈ (t.retireEntry n).holds) : h ∈ holdsWithout t.holds n := by
    rw [hentry.frame] at hu
    exact List.mem_filter.2 ⟨hu, decide_eq_true hne.symm⟩
  have hrest (u : State) : u.Spares h (((u.forgetExpired .host n).forgetExpired .service n).unmark n) :=
    .of_eq rfl rfl
  exact (((hrecord.trans (hentry.spares h)).trans (.setHolds hkept)).trans (hrest _)).settle

variable (hh : h ∈ s.holds) (hp : h.port ≠ p)

include hh hp

/-- Behind its hold check a command writes another point than the one held (R148). -/
theorem unlessHeld_spares {n : PointNo} {rule : State → Answer × State}
    (hrule : n ≠ h.point → s.Spares h (rule s).2) : s.Spares h (unlessHeld p n rule s).2 := by
  unfold unlessHeld
  split
  · exact .refl s h
  · rename_i hb
    exact hrule fun hn => hp (State.blockingHold_eq_none.1 hb h hh hn.symm)

theorem editRule_spares : s.Spares h (editRule p ps s).2 :=
  withPoint_keeps (P := s.Spares h) (.refl s h) fun n => unlessHeld_spares hh hp fun hne => by
    split
    · exact .refl s h
    split
    · exact .refl s h
    split
    · rename_i g _ _
      cases he : s.editIsStaged n with
      | true =>
        rw [State.acceptEdit_staged he]
        exact .modPt_elsewhere (f := fun _ => _) hne
      | false =>
        rw [State.acceptEdit_active he]
        exact (((EngineKeeps.writeActive ..).spares h).trans (.modPt_elsewhere hne)).settle
    · exact .refl s h

theorem lifecycleRule_spares {before : PointState} {change : Point → Point} :
    s.Spares h (lifecycleRule p ps before change s).2 :=
  withPoint_keeps (P := s.Spares h) (.refl s h) fun n => unlessHeld_spares hh hp fun hne => by
    split
    · exact ((State.Spares.modPt_elsewhere hne).trans (.modPt_elsewhere hne)).settle
    · exact .refl s h

theorem retireRule_spares : s.Spares h (retireRule p ps s).2 :=
  withPoint_keeps (P := s.Spares h) (.refl s h) fun _ => unlessHeld_spares hh hp fun hne =>
    State.retirePoint_spares hne

theorem holdRule_spares : s.Spares h (holdRule p ps s).2 :=
  withPoint_keeps (P := s.Spares h) (.refl s h) fun n => by
    simp only
    split
    · exact .refl s h
    refine unlessHeld_spares hh hp fun hne => ?_
    have hforget (t : State) : t.Spares h (t.forgetExpired p n) := .of_eq rfl rfl
    split
    · have hkept : h ∈ renewedHolds s.holds n (numAt ps 5 * Config.holdUnit) :=
        List.mem_map.2 ⟨h, hh, if_neg hne.symm⟩
      exact (State.Spares.setHolds fun _ => hkept).trans (hforget _)
    split
    · exact .refl s h
    · exact (State.Spares.setHolds (List.mem_append_left _)).trans (hforget _)

theorem releaseRule_spares : s.Spares h (releaseRule p ps s).2 :=
  withPoint_keeps (P := s.Spares h) (.refl s h) fun n => by
    split
    · exact .setHolds fun _ => List.mem_filter.2 ⟨hh, by simp [hp]⟩
    split <;> exact .of_eq rfl rfl

/-- No command but SOFT_RESET touches a point that the other port holds, or its hold (R148). -/
theorem ruleOf_spares {c : Cmd} (hs : s.HoldLaw) (hc : c ≠ .softReset) : s.Spares h (ruleOf c p ps s).2 := by
  cases c with
  | define => exact defineRule_spares hs hh
  | find => exact .of_eq (by rw [ruleOf, findRule_state]) (by rw [ruleOf, findRule_state])
  | readProfile => exact readProfileRule_spares ps s h
  | readValue => exact readValueRule_spares ps s h
  | edit => exact editRule_spares hh hp
  | activate => exact lifecycleRule_spares hh hp
  | park => exact lifecycleRule_spares hh hp
  | unpark => exact lifecycleRule_spares hh hp
  | retire => exact retireRule_spares hh hp
  | readChanged => exact readChangedRule_spares p ps s h
  | hold => exact holdRule_spares hh hp
  | release => exact releaseRule_spares hh hp
  | rlistInsert => exact rlistInsertRule_spares ps s h
  | rlistRemove => exact rlistRemoveRule_spares ps s h
  | rlistClear => exact .of_eq rfl rfl
  | rlistRead => exact .of_eq (by rw [ruleOf, rlistReadRule_state]) (by rw [ruleOf, rlistReadRule_state])
  | plistSet => exact plistSetRule_spares ps s h
  | plistRead => exact .of_eq (by rw [ruleOf, plistReadRule_state]) (by rw [ruleOf, plistReadRule_state])
  | scanStart => exact scanStartRule_spares ps s h
  | scanStop => exact s.stopScan_spares h
  | scanHalt => exact s.halt_spares h
  | skipPass => exact skipPassRule_spares s h
  | runPriority => exact s.requestRun_spares h
  | abortPoint => exact abortPointRule_spares ps s h
  | scanConfig => exact scanConfigRule_spares ps s h
  | scanStatus => exact .refl s h
  | condRead => exact .of_eq (by rw [ruleOf, condReadRule_state]) (by rw [ruleOf, condReadRule_state])
  | ack => exact ackRule_spares ps s h
  | ackUpto => exact ackUptoRule_spares ps s h
  | condClear => exact condClearRule_spares ps s h
  | portConfig => exact portConfigRule_spares ps s h
  | portRestore => exact portRestoreRule_spares ps s h
  | portStatus => exact portStatusRule_spares ps s h
  | status => exact .refl s h
  | clearFlags => exact clearFlagsRule_spares ps s h
  | attnMask => exact attnMaskRule_spares ps s h
  | identify => exact .refl s h
  | enterQuiet => exact enterQuietRule_spares s h
  | exitQuiet => exact exitQuietRule_spares s h
  | softReset => exact absurd rfl hc

end

/-- The answer writes no record and no hold. -/
theorem respond_spares {p : CmdPort} {r : Answer × State} {s : State} {h : HoldRecord} (hr : s.Spares h r.2) :
    s.Spares h (respond p r) := hr.trans (.of_eq rfl rfl)

/-- A taken command spares a point that its own rule spares. -/
theorem exec_row_spares {c : Cmd} {p : CmdPort} {ps : List Byte} {s : State} {h : HoldRecord} (ht : s.Takes c p ps)
    (hrule : s.Spares h (ruleOf c p ps s).2) : ∃ t, exec (rowOf c p ps) s = .next t ∧ s.Spares h t := by
  refine ⟨respond p (checked c ps (ruleOf c p ps) s), ?_, respond_spares ?_⟩
  · rw [exec_row, runCommand_eq, if_pos ht]
  · unfold checked
    split
    · exact .refl s h
    split
    · exact hrule
    · exact .refl s h

/-- Settles O12: the hold check answers HELD, and what any other command writes is not the held point. -/
theorem holdKeepsTheOtherPortOff : Obligations.HoldKeepsTheOtherPortOff := by
  intro c p ps s n h ht hs hh hpoint hp
  subst hpoint
  refine ⟨fun hc hw hl h0 hn => ?_, fun hc => ?_⟩
  · have hm : refusalOfMode (admissionOf c) s.run.mode = none := by
      rw [admissionOf_holdChecked hc]
      exact refusalOfMode_works hw
    have hheld := ruleOf_held hc hn (State.blockingHold_of_mem hs hh hp) h0
    exact ⟨reportedTime h.left, exec_row_answered ht hm hl hheld, reportedTime_spec h.left⟩
  · obtain ⟨t, hnext, hspared⟩ := exec_row_spares ht (ruleOf_spares hh hp hs hc)
    exact ⟨t, hnext, hspared.hold hh, hspared.tag, hspared.state, hspared.revision⟩

end Sys2Proof.Machine

/-! SUPPORT. The command ports: what arrives at a port, what the executor takes, and what every command leaves of the
ports, the bus and the queue. The statements on the executor's choice, on its one response, on the arrival of frames
and on IDENTIFY are settled here. -/

namespace Sys2Proof.Machine

/-- Settles O30: IDENTIFY runs in every mode, and its rule answers the fixed data. -/
theorem identifyIsFixed : Obligations.IdentifyIsFixed := fun _ s ht =>
  exec_row_answered (c := .identify) ht (refusalOfMode_always s.run.mode) rfl rfl

/-! ### Opcodes and the port served (R171, R173, R201) -/

theorem State.heldInReset_eq_false {s : State} :
    s.heldInReset = false ↔ s.inReset = false ∧ s.poweringUp = false := by
  simp [State.heldInReset]

theorem CmdPortState.isSome_frame? {st : CmdPortState} : st.frame?.isSome = true ↔ ∃ f, st = .waiting f := by
  cases st <;> simp [CmdPortState.frame?]

theorem State.isWaiting_iff {s : State} {p : CmdPort} :
    s.isWaiting p = true ↔ ∃ f, (s.cmd p).state = .waiting f := CmdPortState.isSome_frame?

/-- The table of R201: each command with its opcode. -/
def opcodeTable : List (Byte × Cmd) := allCommands.map fun c => (opcodeOf c, c)

theorem mem_allCommands (c : Cmd) : c ∈ allCommands := by
  cases c <;> decide

theorem mem_opcodeTable {op : Byte} {c : Cmd} : (op, c) ∈ opcodeTable ↔ opcodeOf c = op := by
  simp [opcodeTable, mem_allCommands]

/-- An opcode outside the table names no command (R173). -/
theorem commandOf_eq_none {op : Byte} : commandOf op = none ↔ ∀ c, (op, c) ∉ opcodeTable := by
  simp [commandOf, mem_opcodeTable, mem_allCommands]

theorem execUnknownOpcode_taken {p : CmdPort} {op : Byte} {ps : List Byte} {s : State} (ht : s.takes p op ps = true)
    (hop : commandOf op = none) : execUnknownOpcode p op ps s = .next (s.answered p .unknown []) := by
  simp [execUnknownOpcode, ht, hop, refuse, respond_eq]

/-- Settles O7: the choice of the port is `State.takes_iff`, and the opcodes are those of `opcodeTable`. -/
theorem executorTakesPortsInTurn : Obligations.ExecutorTakesPortsInTurn := by
  intro p op ps s table
  have htable : table = opcodeTable := rfl
  rw [htable]
  refine ⟨?_, fun c => ?_, fun c => mem_opcodeTable.symm, fun ht hop => ?_⟩
  · rw [State.takes_iff, State.heldInReset_eq_false, State.isWaiting_iff, and_assoc]
  · simp only [mem_opcodeTable, exists_eq_left']
  · exact execUnknownOpcode_taken ht (commandOf_eq_none.2 hop)

/-! ### Command frames (R165, R198) -/

theorem byteOf_toNat (b : Byte) : byteOf b.toNat = b := BitVec.ofNat_toNat ..

theorem toNat_byteOf {n : Nat} (h : n < 256) : (byteOf n).toNat = n := Nat.mod_eq_of_lt h

/-- The frame that is built of opcode and parameters passes the two checks (R165). -/
theorem parseFrame_frameBytes {f : Frame} (hf : f.params.length ≤ Config.maxParameters) :
    parseFrame (frameBytes f) = some f := by
  have hlen : (byteOf f.params.length).toNat = f.params.length :=
    toNat_byteOf (hf.trans_lt (by decide))
  simp [frameBytes, closed, parseFrame, hlen, hf]

/-- Bytes that pass the two checks are the frame built of what they hold (R165). -/
theorem eq_frameBytes_of_parseFrame {bytes : List Byte} {f : Frame} (h : parseFrame bytes = some f) :
    f.params.length ≤ Config.maxParameters ∧ bytes = frameBytes f := by
  unfold parseFrame at h
  split at h
  · rename_i opcode len rest
    split at h
    · rename_i hchecks
      obtain ⟨hmax, hrest, hcrc⟩ := hchecks
      cases h
      have hparams : rest.dropLast.length = len.toNat := by simp [hrest]
      refine ⟨hparams ▸ hmax, ?_⟩
      simp [frameBytes, closed, hparams, byteOf_toNat, List.dropLast_append_getLast? _ hcrc]
    · cases h
  · cases h

theorem parseFrame_eq_some {bytes : List Byte} {f : Frame} :
    parseFrame bytes = some f ↔ f.params.length ≤ Config.maxParameters ∧ bytes = frameBytes f := by
  refine ⟨eq_frameBytes_of_parseFrame, ?_⟩
  rintro ⟨hf, rfl⟩
  exact parseFrame_frameBytes hf

theorem parseFrame_eq_none {bytes : List Byte} :
    parseFrame bytes = none ↔ ∀ f : Frame, f.params.length ≤ Config.maxParameters → bytes ≠ frameBytes f := by
  simp [Option.eq_none_iff_forall_ne_some, parseFrame_eq_some]

/-! ### Arrival at a port (R163 to R167) -/

section

variable {c : CommandPort} {bytes : List Byte} {f : Frame}

theorem CommandPort.arrive_waiting (hc : c.state = .waiting f) : c.arrive bytes = { c with overlap := true } := by
  simp [CommandPort.arrive, hc]

theorem CommandPort.arrive_taken (hc : ∀ g, c.state ≠ .waiting g) (hf : parseFrame bytes = some f) :
    c.arrive bytes = { c.loseBuffer with state := .waiting f, overlap := false } := by
  unfold CommandPort.arrive
  split
  · exact absurd ‹_› (hc _)
  all_goals rw [hf]

theorem CommandPort.arrive_refused (hc : ∀ g, c.state ≠ .waiting g) (hf : parseFrame bytes = none) :
    c.arrive bytes = { c.loseBuffer with state := .done ⟨.frame, false, []⟩ } := by
  unfold CommandPort.arrive
  split
  · exact absurd ‹_› (hc _)
  all_goals rw [hf]

end

section

variable {s : State} {bytes : List Byte}

/-- A write on the SPI lines that does not begin with the fetch byte is a frame at the host port (R163). -/
theorem State.spiWrite_frame (hne : bytes ≠ []) (hfirst : bytes.head? ≠ some 0x00#8) :
    s.spiWrite bytes = s.setCmd .host
      { (s.cmd .host).arrive bytes with shifted := List.replicate bytes.length 0xFF#8 } := by
  obtain ⟨b, bs, rfl⟩ := List.exists_cons_of_ne_nil hne
  have hb : b ≠ 0x00#8 := fun e => hfirst (congrArg some e)
  exact if_neg hb

theorem State.i2cAcknowledges_self : s.i2cAcknowledges s.i2cAddress = true := beq_self_eq_true _

/-- A write at the target's address is a frame at the service port, each byte acknowledged (R164). -/
theorem State.i2cWrite_frame (hne : bytes ≠ []) :
    s.i2cWrite s.i2cAddress bytes = (s.setAcks (List.replicate (bytes.length + 1) true)).setCmd .service
      { (s.cmd .service).arrive bytes with shifted := [] } := by
  rw [State.i2cWrite, State.writeAcks, State.i2cAcknowledges_self]
  exact if_pos ⟨rfl, hne⟩

/-- A write of no byte at the target's address reaches no port (R164). -/
theorem State.i2cWrite_nil : s.i2cWrite s.i2cAddress [] = s.setAcks [true] := by
  simp [State.i2cWrite, State.writeAcks, State.i2cAcknowledges_self]

/-- A write at another address is left alone with all that follows (R164). -/
theorem State.i2cWrite_elsewhere {a : BitVec 7} (ha : a ≠ s.i2cAddress) :
    s.i2cWrite a bytes = s.setAcks (List.replicate (bytes.length + 1) false) := by
  simp [State.i2cWrite, State.writeAcks, State.i2cAcknowledges, beq_eq_false_iff_ne.2 ha]

/-- Out of reset a frame on a bus is the write transaction of that bus (R163, R164, R196). -/
theorem exec_commandFrame_spi (hr : s.heldInReset = false) :
    exec (.commandFrame .spi bytes) s = .next (s.spiWrite bytes) :=
  onEvent_out (f := fun s => s.spiWrite bytes) hr

theorem exec_commandFrame_i2c {a : BitVec 7} (hr : s.heldInReset = false) :
    exec (.commandFrame (.i2c a) bytes) s = .next (s.i2cWrite a bytes) :=
  onEvent_out (f := fun s => s.i2cWrite a bytes) hr

end

/-- Settles O48: on either bus a write of a byte or more is one arrival at the bus's own port, which goes by the
state of the port and by whether the bytes parse. -/
theorem framesArriveAtAPort : Obligations.FramesArriveAtAPort := by
  intro bus p bytes s hr hbus c out acked u put lost
  have harrive (hne : bytes ≠ []) : exec (.commandFrame bus bytes) s = .next (put (c.arrive bytes)) := by
    obtain ⟨rfl, rfl, hfirst⟩ | ⟨rfl, rfl⟩ := hbus
    · rw [exec_commandFrame_spi hr, State.spiWrite_frame hne hfirst]
      rfl
    · rw [exec_commandFrame_i2c hr, State.i2cWrite_frame hne]
      rfl
  refine ⟨?nothing, fun hne => ⟨fun f hc => ?dropped, fun hc f hf hb => ?taken, fun hc hf => ?refused⟩,
    fun a ha => ?elsewhere⟩
  case nothing =>
    rintro rfl
    obtain ⟨rfl, rfl, -⟩ | ⟨rfl, rfl⟩ := hbus
    · exact exec_commandFrame_spi hr
    · rw [exec_commandFrame_i2c hr, State.i2cWrite_nil]
      rfl
  case dropped => rw [harrive hne, CommandPort.arrive_waiting hc]
  case taken =>
    rw [harrive hne, CommandPort.arrive_taken hc (parseFrame_eq_some.2 ⟨hf, hb⟩)]
    rfl
  case refused =>
    rw [harrive hne, CommandPort.arrive_refused hc (parseFrame_eq_none.2 hf)]
    rfl
  case elsewhere =>
    rw [exec_commandFrame_i2c hr, State.i2cWrite_elsewhere ha]
    rfl

/-! ### What a command leaves of its ports, the bus and the queue (R171, R172) -/

/-- A command port without its last-expired-hold record, with what belongs to no port: reset, power, bus and queue. -/
structure Outside where
  port : CommandPort
  inReset : Bool
  poweringUp : Bool
  i2cAddress : BitVec 7
  i2cAcks : List Bool
  pending : List Instr

/-- The view from command port `q` of what no command's own rule writes. -/
def State.outside (s : State) (q : CmdPort) : Outside where
  port := { s.cmd q with lastExpired := none }
  inReset := s.inReset
  poweringUp := s.poweringUp
  i2cAddress := s.i2cAddress
  i2cAcks := s.i2cAcks
  pending := s.pending

/-- Two states look alike from a port exactly where they differ in no item of the view but in the last-expired-hold
record of the port. -/
theorem State.outside_eq_iff {s t : State} {q : CmdPort} :
    t.outside q = s.outside q ↔
      t.cmd q = { s.cmd q with lastExpired := (t.cmd q).lastExpired } ∧ t.inReset = s.inReset
        ∧ t.poweringUp = s.poweringUp ∧ t.i2cAddress = s.i2cAddress ∧ t.i2cAcks = s.i2cAcks
        ∧ t.pending = s.pending := by
  have hport (c d : CommandPort) :
      ({ d with lastExpired := none } : CommandPort) = { c with lastExpired := none }
        ↔ d = { c with lastExpired := d.lastExpired } := by
    cases c; cases d; simp
  simp only [State.outside, Outside.mk.injEq, hport]

section

variable {s t : State} (q : CmdPort)

theorem EngineKeeps.outside (h : EngineKeeps s t) : t.outside q = s.outside q := by
  simp only [State.outside, State.cmd, h.cmdPorts, h.inReset, h.poweringUp, h.i2cAddress, h.i2cAcks, h.pending]

theorem State.ConditionMoves.outside (h : s.ConditionMoves t) : t.outside q = s.outside q := by
  rw [h.frame]; rfl

@[simp] theorem State.modPt_outside (s : State) (n : PointNo) (f : Point → Point) :
    (s.modPt n f).outside q = s.outside q := rfl

@[simp] theorem State.bumpRevision_outside (s : State) (n : PointNo) :
    (s.bumpRevision n).outside q = s.outside q := rfl

@[simp] theorem State.modPort_outside (s : State) (i : PortNo) (f : SamplePort → SamplePort) :
    (s.modPort i f).outside q = s.outside q := rfl

@[simp] theorem State.handOver_outside (s : State) (o : Origin) (n : PointNo) (out : EntryOutcome) :
    (s.handOver o n out).outside q = s.outside q := rfl

@[simp] theorem State.modScan_outside (s : State) (f : Scan → Scan) : (s.modScan f).outside q = s.outside q := rfl

@[simp] theorem State.setHolds_outside (s : State) (hs : List HoldRecord) :
    (s.setHolds hs).outside q = s.outside q := rfl

@[simp] theorem State.unmark_outside (s : State) (n : PointNo) : (s.unmark n).outside q = s.outside q := rfl

@[simp] theorem State.settle_outside (s : State) : s.settle.outside q = s.outside q := s.settle_keeps.outside q

@[simp] theorem State.promote_outside (s : State) : s.promote.outside q = s.outside q :=
  (EngineKeeps.promote s).outside q

@[simp] theorem State.passEnd_outside (s : State) (halted : Bool) : (s.passEnd halted).outside q = s.outside q :=
  (EngineKeeps.passEnd s halted).outside q

@[simp] theorem State.writeActive_outside (s : State) (n : PointNo) (pr : Profile) :
    (s.writeActive n pr).outside q = s.outside q := (EngineKeeps.writeActive s n pr).outside q

@[simp] theorem State.retireEntry_outside (s : State) (n : PointNo) :
    (s.retireEntry n).outside q = s.outside q := (s.conditionMoves_retireEntry n).outside q

@[simp] theorem State.withdraw_outside (s : State) (o : Origin) : (s.withdraw o).outside q = s.outside q := by
  rw [State.withdraw_frame]; rfl

@[simp] theorem State.unlink_outside (s : State) (n : PointNo) : (s.unlink n).outside q = s.outside q := by
  unfold State.unlink
  simp only
  split
  · rfl
  · split <;> rfl

@[simp] theorem State.forgetExpired_outside (s : State) (p : CmdPort) (n : PointNo) :
    (s.forgetExpired p n).outside q = s.outside q := by
  rw [State.forgetExpired_eq]
  cases p <;> cases q <;> rfl

theorem State.halt_outside (s : State) : s.halt.outside q = s.outside q := by
  have hroutine : s.haltRoutine.outside q = s.outside q := by
    unfold State.haltRoutine
    split <;> simp
  rw [State.halt_eq, State.abortRun]
  split <;> simpa using hroutine

theorem State.retirePoint_outside (s : State) (n : PointNo) : (s.retirePoint n).outside q = s.outside q := by
  simp [State.retirePoint]

theorem State.stopScan_outside (s : State) : s.stopScan.outside q = s.outside q := by
  unfold State.stopScan
  split <;> simp

theorem State.requestRun_outside (s : State) : s.requestRun.outside q = s.outside q := by
  unfold State.requestRun
  split
  · split <;> rfl
  · simp

theorem State.enterQuiet_outside (s : State) : s.enterQuiet.outside q = s.outside q := by
  unfold State.enterQuiet
  split <;> exact s.halt_outside q

theorem State.exitQuiet_outside (s : State) : s.exitQuiet.outside q = s.outside q := by
  unfold State.exitQuiet
  split <;> rfl

/-- SOFT_RESET leaves the port that issued it but for its last-expired-hold record (R151, R185). -/
theorem State.softReset_outside (s : State) (p : CmdPort) : (s.softReset p).outside p = s.outside p := by
  have hissuing (c : CommandPort) : c.softReset true = { c with lastExpired := none } := by
    unfold CommandPort.softReset
    split <;> simp_all
  have hport : (s.softReset p).cmd p = { s.cmd p with lastExpired := none } := by
    cases p <;> exact hissuing _
  simp only [State.outside, hport]
  rfl

end

/-! ### What a command's own rule answers (R174, R175) -/

/-- Whether a command's own rule can answer a status: the others are those of the executor, of the ports and of
SOFT_RESET at the other port. -/
def Status.ofCommand : Status → Bool
  | .unknown | .frame | .abandoned | .notReady => false
  | _ => true

theorem Status.not_mem_of_ofCommand {st : Status} (h : st.ofCommand = true) :
    st ∉ [Status.unknown, .frame, .abandoned, .notReady] := by
  intro hmem
  simp only [List.mem_cons, List.not_mem_nil, or_false] at hmem
  rcases hmem with rfl | rfl | rfl | rfl <;> cases h

/-- A rule answers as a command does: with a status of its own, within 96 bytes, and it leaves what stands outside. -/
structure State.Answers (s : State) (q : CmdPort) (r : Answer × State) : Prop where
  status : r.1.status.ofCommand = true
  size : r.1.data.length ≤ 96
  outside : r.2.outside q = s.outside q

section

variable {s t : State} {q : CmdPort} {st : Status} {data : List Byte}

theorem State.Answers.refuse (hst : st.ofCommand = true) : s.Answers q (refuse st s) :=
  ⟨hst, Nat.zero_le _, rfl⟩

theorem State.Answers.accept (hsize : data.length ≤ 96) (hout : t.outside q = s.outside q) :
    s.Answers q (accept data t) := ⟨rfl, hsize, hout⟩

/-- A status of a command's own that comes with data or with a change: HELD, REVISION or EXPIRED (R174). -/
theorem State.Answers.answer (hsize : data.length ≤ 96) (hout : t.outside q = s.outside q)
    (hst : st.ofCommand = true) : s.Answers q (⟨st, data⟩, t) := ⟨hst, hsize, hout⟩

/-- What the selector refuses is BAD_PARAM, NO_POINT or NO_TAG (R29). -/
theorem State.resolve_error {name : Option PointName} (h : s.resolve name = .error st) : st.ofCommand = true := by
  unfold State.resolve at h
  split at h
  · cases h; rfl
  all_goals
    split at h <;> cases h
    rfl

theorem State.Answers.withPoint {ps : List Byte} {i : Nat} {rule : PointNo → State → Answer × State}
    (h : ∀ n, s.Answers q (rule n s)) : s.Answers q (withPoint ps i rule s) := by
  unfold Machine.withPoint
  split
  · exact .refuse (State.resolve_error ‹_›)
  · exact h _

theorem State.Answers.unlessHeld {p : CmdPort} {n : PointNo} {rule : State → Answer × State}
    (h : s.Answers q (rule s)) : s.Answers q (unlessHeld p n rule s) := by
  unfold Machine.unlessHeld
  split
  · exact .answer (by simp) rfl rfl
  · exact h

end

/-! ### The length of data (R203) -/

@[simp] theorem length_bytes16 (w : BitVec 16) : (bytes16 w).length = 2 := rfl

@[simp] theorem length_bytes32 (w : BitVec 32) : (bytes32 w).length = 4 := rfl

@[simp] theorem length_num16 (n : Nat) : (num16 n).length = 2 := rfl

@[simp] theorem length_engBytes (v : Int) : (engBytes v).length = 3 := rfl

@[simp] theorem length_pointBytes (n : PointNo) : (pointBytes n).length = 2 := rfl

@[simp] theorem length_limitBytes (v : Option Int) : (limitBytes v).length = 3 := by
  cases v <;> rfl

@[simp] theorem length_profileBytes (pr : Profile) : (profileBytes pr).length = 27 := by
  simp [profileBytes]

@[simp] theorem length_recordData (r : Option ConvRecord) : (recordData r).length = 7 := by
  cases r <;> rfl

@[simp] theorem length_listData (staged : Bool) (n : Nat) : (listData staged n).length = 3 := rfl

theorem length_window_le {α : Type} (l : List α) (start most : Nat) : (window l start most).length ≤ most :=
  List.length_take_le ..

/-- Items of one length take that length as often as there are items. -/
theorem length_flatMap_of_const {α β : Type} {f : α → List β} {k : Nat} (h : ∀ a, (f a).length = k)
    (l : List α) : (l.flatMap f).length = l.length * k := by
  simp [List.length_flatMap, h]

/-! ### Each command's own rule -/

section

variable (p q : CmdPort) (ps : List Byte) (s : State)

theorem defineRule_answers : s.Answers q (defineRule ps s) := by
  unfold defineRule
  simp only
  split
  · exact .refuse rfl
  split
  · exact .refuse rfl
  split
  · exact .refuse rfl
  · exact .accept (by simp) rfl

theorem findRule_answers : s.Answers q (findRule ps s) := by
  unfold findRule
  split
  · exact .refuse rfl
  · exact .accept (by simp) rfl

theorem readProfileRule_answers : s.Answers q (readProfileRule ps s) :=
  .withPoint fun n => by
    split
    · exact .refuse rfl
    · exact .accept (by simp [profileData]) rfl

theorem readValueRule_answers : s.Answers q (readValueRule ps s) :=
  .withPoint fun _ => .accept (by simp [valueData]) rfl

theorem editRule_answers : s.Answers q (editRule p ps s) :=
  .withPoint fun n => .unlessHeld <| by
    split
    · exact .answer (by simp) rfl rfl
    split
    · exact .refuse rfl
    split
    · rename_i g _ _
      cases hstaged : s.editIsStaged n with
      | true =>
        rw [State.acceptEdit_staged hstaged]
        exact .accept (by simp) rfl
      | false =>
        rw [State.acceptEdit_active hstaged]
        exact .accept (by simp) (by simp)
    · exact .refuse rfl

theorem lifecycleRule_answers (before : PointState) (change : Point → Point) :
    s.Answers q (lifecycleRule p ps before change s) :=
  .withPoint fun n => .unlessHeld <| by
    split
    · exact .accept (by simp) (by simp)
    · exact .refuse rfl

theorem retireRule_answers : s.Answers q (retireRule p ps s) :=
  .withPoint fun n => .unlessHeld (.accept (by simp) (s.retirePoint_outside q n))

/-- A read returns at most 8 points of 11 bytes each (R157, R203). -/
theorem readChangedRule_answers : s.Answers q (readChangedRule p ps s) := by
  unfold readChangedRule
  simp only
  split
  · exact .refuse rfl
  · rename_i hmost
    have hitem (n : PointNo) : (changedData n (s.pt n)).length = 11 := by simp [changedData]
    have hcount : ((s.changed.get p).inReadOrder.take (numAt ps 0)).length ≤ numAt ps 0 := List.length_take_le ..
    refine .accept ?_ rfl
    simp only [List.length_append, length_flatMap_of_const hitem, List.length_singleton, length_num16]
    omega

theorem holdRule_answers : s.Answers q (holdRule p ps s) :=
  .withPoint fun n => by
    simp only
    split
    · exact .refuse rfl
    refine .unlessHeld ?_
    split
    · exact .accept (by simp [holdData]) (by simp)
    split
    · exact .refuse rfl
    · exact .accept (by simp [holdData]) (by simp)

theorem releaseRule_answers : s.Answers q (releaseRule p ps s) :=
  .withPoint fun n => by
    split
    · exact .accept (by simp) rfl
    split
    · exact .answer (by simp) (by simp) rfl
    · exact .refuse rfl

theorem rlistInsertRule_answers : s.Answers q (rlistInsertRule ps s) :=
  .withPoint fun n => by
    simp only
    split
    · exact .refuse rfl
    split
    · exact .refuse rfl
    split
    · exact .refuse rfl
    · exact .accept (by simp) rfl

theorem rlistRemoveRule_answers : s.Answers q (rlistRemoveRule ps s) :=
  .withPoint fun n => by
    split
    · exact .accept (by simp) rfl
    · exact .refuse rfl

/-- A read returns at most 16 entries of 3 bytes each (R51, R203). -/
theorem rlistReadRule_answers : s.Answers q (rlistReadRule ps s) := by
  unfold rlistReadRule
  simp only
  split
  · exact .refuse rfl
  split
  · exact .refuse rfl
  rename_i hmost
  have hstaged (n : PointNo) : (stagedEntryData n).length = 3 := rfl
  have hentry (e : Entry) : (entryData e).length = 3 := rfl
  split
  · rename_i ns _
    have hcount := length_window_le ns (numAt ps 1) (numAt ps 2)
    refine .accept ?_ rfl
    simp only [List.length_append, length_flatMap_of_const hstaged, List.length_singleton, length_listData]
    omega
  · have hcount := length_window_le s.scan.active (numAt ps 1) (numAt ps 2)
    refine .accept ?_ rfl
    simp only [List.length_append, length_flatMap_of_const hentry, List.length_singleton, length_listData]
    omega

theorem plistSetRule_answers : s.Answers q (plistSetRule ps s) := by
  unfold plistSetRule
  split
  · exact .refuse rfl
  split
  · exact .refuse rfl
  split
  · exact .refuse rfl
  split
  · exact .accept (by simp) rfl
  · exact .refuse rfl

/-- A read returns at most 16 entries of 3 bytes each (R61, R203). -/
theorem plistReadRule_answers : s.Answers q (plistReadRule ps s) := by
  unfold plistReadRule
  simp only
  split
  · exact .refuse rfl
  · rename_i hmost
    have hentry (e : Entry) : (entryData e).length = 3 := rfl
    have hcount := length_window_le s.scan.prio (numAt ps 0) (numAt ps 1)
    refine .accept ?_ rfl
    simp only [List.length_append, length_flatMap_of_const hentry, List.length_cons, List.length_nil]
    omega

theorem scanStartRule_answers : s.Answers q (scanStartRule ps s) := by
  unfold scanStartRule
  split
  · exact .refuse rfl
  split
  · exact .accept (by simp) (by simp)
  · exact .refuse rfl

theorem skipPassRule_answers : s.Answers q (skipPassRule s) := by
  unfold skipPassRule
  split
  · exact .accept (by simp) (by simp)
  · exact .refuse rfl

theorem abortPointRule_answers : s.Answers q (abortPointRule ps s) :=
  .withPoint fun n => by
    split
    · exact .refuse rfl
    · exact .accept (by simp) (by simp)

theorem scanConfigRule_answers : s.Answers q (scanConfigRule ps s) := by
  unfold scanConfigRule
  split
  · exact .refuse rfl
  split
  · exact .refuse rfl
  · exact .accept (by simp) rfl

/-- A read returns at most 8 entries of 10 bytes each (R138, R203). -/
theorem condReadRule_answers : s.Answers q (condReadRule ps s) := by
  unfold condReadRule
  simp only
  split
  · exact .refuse rfl
  · rename_i hmost
    have hentry (e : CondEntry) : (condEntryData e).length = 10 := rfl
    have hcount := length_window_le s.cond.list (numAt ps 0) (numAt ps 1)
    refine .accept ?_ rfl
    simp only [List.length_append, length_flatMap_of_const hentry, List.length_singleton, length_num16]
    omega

theorem ackRule_answers : s.Answers q (ackRule ps s) :=
  .withPoint fun n => by
    split
    · exact .refuse rfl
    · exact .accept (by simp) ((s.conditionMoves_ackEntry _).outside q)

theorem ackUptoRule_answers : s.Answers q (ackUptoRule ps s) := by
  unfold ackUptoRule
  split
  · exact .refuse rfl
  · exact .accept (by simp) ((s.conditionMoves_ackEntries _).outside q)

theorem condClearRule_answers : s.Answers q (condClearRule ps s) :=
  .withPoint fun n => by
    split
    · exact .refuse rfl
    split
    · exact .accept (by simp) ((s.conditionMoves_removeEntry n).outside q)
    · exact .refuse rfl

theorem portConfigRule_answers : s.Answers q (portConfigRule ps s) := by
  unfold portConfigRule
  split
  · split
    · exact .refuse rfl
    split
    · exact .refuse rfl
    · exact .accept (by simp) (by simp)
  · exact .refuse rfl

theorem portRestoreRule_answers : s.Answers q (portRestoreRule ps s) := by
  unfold portRestoreRule
  split
  · exact .refuse rfl
  split
  · exact .accept (by simp) (by simp)
  · exact .refuse rfl

theorem portStatusRule_answers : s.Answers q (portStatusRule ps s) := by
  unfold portStatusRule
  split
  · refine .accept (by simp [portStatusData]) ?_
    split <;> rfl
  · exact .refuse rfl

theorem clearFlagsRule_answers : s.Answers q (clearFlagsRule ps s) := by
  unfold clearFlagsRule
  split
  · exact .refuse rfl
  · exact .accept (by simp) rfl

theorem attnMaskRule_answers : s.Answers q (attnMaskRule ps s) := by
  unfold attnMaskRule
  split
  · exact .refuse rfl
  · exact .accept (by simp) rfl

theorem enterQuietRule_answers : s.Answers q (enterQuietRule s) := by
  unfold enterQuietRule
  split
  · exact .accept (by simp) rfl
  split
  · exact .refuse rfl
  · exact .accept (by simp) (s.enterQuiet_outside q)

theorem exitQuietRule_answers : s.Answers q (exitQuietRule s) := by
  unfold exitQuietRule
  split
  · exact .accept (by simp) (s.exitQuiet_outside q)
  · exact .accept (by simp) rfl

end

/-- Every command answers as a command does; what SOFT_RESET leaves is its own port (R171, R174, R185). -/
theorem ruleOf_answers {c : Cmd} {p q : CmdPort} (hq : c = .softReset → q = p) (ps : List Byte) (s : State) :
    s.Answers q (ruleOf c p ps s) := by
  cases c with
  | define => exact defineRule_answers q ps s
  | find => exact findRule_answers q ps s
  | readProfile => exact readProfileRule_answers q ps s
  | readValue => exact readValueRule_answers q ps s
  | edit => exact editRule_answers p q ps s
  | activate => exact lifecycleRule_answers p q ps s ..
  | park => exact lifecycleRule_answers p q ps s ..
  | unpark => exact lifecycleRule_answers p q ps s ..
  | retire => exact retireRule_answers p q ps s
  | readChanged => exact readChangedRule_answers p q ps s
  | hold => exact holdRule_answers p q ps s
  | release => exact releaseRule_answers p q ps s
  | rlistInsert => exact rlistInsertRule_answers q ps s
  | rlistRemove => exact rlistRemoveRule_answers q ps s
  | rlistClear => exact .accept (by simp) rfl
  | rlistRead => exact rlistReadRule_answers q ps s
  | plistSet => exact plistSetRule_answers q ps s
  | plistRead => exact plistReadRule_answers q ps s
  | scanStart => exact scanStartRule_answers q ps s
  | scanStop => exact .accept (by simp) (s.stopScan_outside q)
  | scanHalt => exact .accept (by simp) (s.halt_outside q)
  | skipPass => exact skipPassRule_answers q s
  | runPriority => exact .accept (by simp) (s.requestRun_outside q)
  | abortPoint => exact abortPointRule_answers q ps s
  | scanConfig => exact scanConfigRule_answers q ps s
  | scanStatus => exact .accept (by simp [scanStatusData]) rfl
  | condRead => exact condReadRule_answers q ps s
  | ack => exact ackRule_answers q ps s
  | ackUpto => exact ackUptoRule_answers q ps s
  | condClear => exact condClearRule_answers q ps s
  | portConfig => exact portConfigRule_answers q ps s
  | portRestore => exact portRestoreRule_answers q ps s
  | portStatus => exact portStatusRule_answers q ps s
  | status => exact .accept (by simp [statusData]) rfl
  | clearFlags => exact clearFlagsRule_answers q ps s
  | attnMask => exact attnMaskRule_answers q ps s
  | identify => exact .accept (by simp [identifyData]) rfl
  | enterQuiet => exact enterQuietRule_answers q s
  | exitQuiet => exact exitQuietRule_answers q s
  | softReset =>
    obtain rfl := hq rfl
    exact .accept (by simp) (s.softReset_outside q)

/-- The checks before the rule refuse with BUSY, QUIET and BAD_PARAM (R173, R187). -/
theorem checked_answers {c : Cmd} {p q : CmdPort} (hq : c = .softReset → q = p) (ps : List Byte) (s : State) :
    s.Answers q (checked c ps (ruleOf c p ps) s) := by
  have hmode {a : Admission} {m : Mode} {st : Status} (h : refusalOfMode a m = some st) :
      st.ofCommand = true := by
    cases a <;> cases m <;> cases h <;> rfl
  unfold checked
  split
  · exact .refuse (hmode ‹_›)
  split
  · exact ruleOf_answers hq ps s
  · exact .refuse rfl

/-! ### The response of a taken command (R171, R172, R174) -/

/-- The response writes the state of its port and the port served last. -/
theorem respond_cmd_self (p : CmdPort) (r : Answer × State) :
    (respond p r).cmd p = { r.2.cmd p with state := .done ⟨r.1.status, (r.2.cmd p).overlap, r.1.data⟩ } :=
  State.modCmd_cmd_self ..

theorem respond_cmd_other (p : CmdPort) (r : Answer × State) :
    (respond p r).cmd (otherPort p) = r.2.cmd (otherPort p) :=
  State.modCmd_cmd_ne _ _ (by cases p <;> decide)

/-- Settles O8: the one response is that of `respond`, on an answer of the executor's checks or of the command's own
rule. -/
theorem takenCommandGetsOneResponse : Obligations.TakenCommandGetsOneResponse := by
  intro c p ps s ht
  obtain ⟨hr, -, -⟩ := (s.takes_iff ..).1 ht
  obtain ⟨hreset, hpower⟩ := State.heldInReset_eq_false.1 hr
  rcases hu : checked c ps (ruleOf c p ps) s with ⟨a, u⟩
  have hanswers {q : CmdPort} (hq : c = .softReset → q = p) : s.Answers q (a, u) := hu ▸ checked_answers hq ps s
  obtain ⟨hstatus, hsize, hout⟩ := hanswers fun _ => rfl
  obtain ⟨hcmd, hinReset, hpoweringUp, haddress, hacks, hpending⟩ := State.outside_eq_iff.1 hout
  have hoverlap : (u.cmd p).overlap = (s.cmd p).overlap := by rw [hcmd]
  refine ⟨respond p (a, u), ⟨a.status, (u.cmd p).overlap, a.data⟩, ?_, ?_, hoverlap, hsize,
    Status.not_mem_of_ofCommand hstatus, rfl, fun hc => ?_, hinReset.trans hreset, hpoweringUp.trans hpower,
    haddress, hacks, hpending⟩
  · rw [exec_row, runCommand_eq, if_pos ht, hu]
  · rw [respond_cmd_self, hcmd]
  · rw [respond_cmd_other]
    exact (State.outside_eq_iff.1 (hanswers fun h => absurd h hc).outside).1

end Sys2Proof.Machine

/-! SUPPORT. Run control's resets: what SOFT_RESET does to each record, sample port and command port, what the state
after reset holds, and what still acts on a part held in reset. The statements on SOFT_RESET, on the laws at reset and
on power-on and RESET_N are settled here. -/

namespace Sys2Proof.Machine

/-! ### SOFT_RESET block by block (R22, R104, R151, R161, R185, R195) -/

/-- A record that a command can name keeps its identity and its active profile with raw code and value, and loses
the rest (R22). -/
theorem Point.softReset_of_named {x : Point} (h : x.state.named = true) :
    x.softReset = { x with
      staged := none, quality := .unscanned, age := 0, seeded := false, inFlight := none
      level := .normal, candidate := none, confirmCounter := 0, peak := .normal, unlisted := false } := by
  have hstate : x.state ≠ .retiring := fun hr => by simp [hr, PointState.named] at h
  simp only [Point.softReset, h, hstate, ↓reduceIte]

/-- A record that no command can name ends FREE: a RETIRING one gives up the conversion it waited for (R22). -/
theorem Point.softReset_of_unnamed {x : Point} (h : x.state.named = false) :
    x.softReset = { x with state := .free, staged := none, inFlight := none, unlisted := false } := by
  have hstate : (if x.state = .retiring then .free else x.state) = PointState.free := by
    cases hx : x.state with
    | free | retiring => rfl
    | draft | live | parked => rw [hx] at h; cases h
  simp [Point.softReset, h, hstate]

/-- The issuing port is still WAITING for its answer; it only forgets the hold that expired last (R151, R185). -/
theorem CommandPort.softReset_issuing (c : CommandPort) : c.softReset true = { c with lastExpired := none } := by
  unfold CommandPort.softReset
  cases hc : c.state <;> rfl

/-- At the other port a waiting command is answered ABANDONED (R185). -/
theorem CommandPort.softReset_abandons {c : CommandPort} {f : Frame} (hc : c.state = .waiting f) :
    c.softReset false = { c with lastExpired := none, state := .done ⟨.abandoned, c.overlap, []⟩ } := by
  simp [CommandPort.softReset, hc]

/-- Without a command of its own the other port only forgets the hold that expired last (R151, R185). -/
theorem CommandPort.softReset_of_not_waiting {c : CommandPort} (hc : ∀ f, c.state ≠ .waiting f) :
    c.softReset false = { c with lastExpired := none } := by
  unfold CommandPort.softReset
  cases hst : c.state with
  | waiting f => exact absurd hst (hc f)
  | ready | done r => rfl

section

variable (s : State) (p : CmdPort)

theorem State.softReset_pt (n : PointNo) : (s.softReset p).pt n = (s.pt n).softReset := Table.get_map ..

theorem State.softReset_port (i : PortNo) : (s.softReset p).port i = (s.port i).softReset := Table.get_map ..

theorem State.softReset_cmd (q : CmdPort) : (s.softReset p).cmd q = (s.cmd q).softReset (p == q) := by
  cases q <;> rfl

theorem State.softReset_changed (q : CmdPort) : (s.softReset p).changed.get q = ChangeSet.initial := by
  cases q <;> rfl

theorem State.softReset_cmd_self : (s.softReset p).cmd p = { s.cmd p with lastExpired := none } := by
  rw [State.softReset_cmd, beq_self_eq_true, CommandPort.softReset_issuing]

theorem State.softReset_cmd_other : (s.softReset p).cmd (otherPort p) = (s.cmd (otherPort p)).softReset false := by
  rw [State.softReset_cmd, beq_eq_false_iff_ne.2 (otherPort_ne p)]

end

theorem ChangeSet.initial_get (n : PointNo) : ChangeSet.initial.members.get n = false := Table.get_replicate ..

/-- Settles O47: the mode never refuses SOFT_RESET, the blocks that are written whole agree field by field, and each
record and port is what its own reset gives. -/
theorem softResetKeepsTheConfiguration : Obligations.SoftResetKeepsTheConfiguration := by
  intro p s ht q
  refine ⟨s.softReset p, exec_row_answered ht (refusalOfMode_always _) rfl rfl, rfl,
    fun n => ⟨fun hn => ?_, fun hn => ?_⟩, s.softReset_port p, fun b => ⟨?_, fun n => ?_⟩, s.softReset_cmd_self p,
    fun f hf => ?_, fun hf => ?_⟩
  · rw [State.softReset_pt, Point.softReset_of_named hn]
  · rw [State.softReset_pt, Point.softReset_of_unnamed hn]
    exact ⟨rfl, rfl, rfl, rfl, rfl, rfl⟩
  · rw [State.softReset_changed]
    rfl
  · rw [State.isChanged, State.softReset_changed, ChangeSet.initial_get]
  · rw [State.softReset_cmd_other, CommandPort.softReset_abandons hf]
  · rw [State.softReset_cmd_other, CommandPort.softReset_of_not_waiting hf]

/-! ### The state after reset (R196) -/

@[simp] theorem State.reset_pt (n : PointNo) : State.reset.pt n = Point.initial := Table.get_replicate ..

@[simp] theorem State.reset_port (i : PortNo) : State.reset.port i = SamplePort.initial := Table.get_replicate ..

@[simp] theorem State.reset_head (b : Byte) : State.reset.head b = none := Table.get_replicate ..

@[simp] theorem State.reset_changed (p : CmdPort) : State.reset.changed.get p = ChangeSet.initial := by
  cases p <;> rfl

@[simp] theorem State.reset_cmd (p : CmdPort) : State.reset.cmd p = CommandPort.initial := by
  cases p <;> rfl

@[simp] theorem State.reset_isChanged (p : CmdPort) (n : PointNo) : State.reset.isChanged p n = false := by
  rw [State.isChanged, State.reset_changed, ChangeSet.initial_get]

@[simp] theorem State.reset_chain (b : Byte) : State.reset.chain b = [] := by
  rw [State.chain, State.reset_head, State.chainFrom]

theorem State.reset_pointsInUse : State.reset.pointsInUse = 0 :=
  (Table.count_eq_zero ..).2 fun n => by
    rw [show State.reset.points.get n = Point.initial from State.reset_pt n]
    rfl

theorem State.reset_initialTable : State.reset.InitialTable := by
  simp only [State.InitialTable, State.reset_pt, State.reset_port, State.reset_head, State.reset_isChanged,
    State.reset_changed, State.reset_cmd, State.reset_pointsInUse]
  simp [State.reset, Point.initial, Scan.initial, SamplePort.initial, ChangeSet.initial, CommandPort.initial,
    Attention.initial, Config.initialPeriod, Config.initialTimeout, Config.initialMask]

/-! ### The laws after reset -/

theorem State.reset_pt_unnamed (n : PointNo) : (State.reset.pt n).state.named ≠ true := by
  rw [State.reset_pt]
  exact nofun

theorem State.reset_scannerLaw : State.reset.ScannerLaw :=
  ⟨fun _ => ⟨rfl, rfl, rfl, nofun, fun n => by rw [State.reset_pt]; rfl⟩, nofun⟩

theorem State.reset_listLaw : State.reset.ListLaw :=
  have hempty (k : Nat) : State.reset.listed k [] := ⟨k.zero_le, .nil, nofun⟩
  ⟨hempty _, hempty _, hempty _⟩

theorem State.reset_recordLaw : State.reset.RecordLaw := by
  refine ⟨fun n i => ?_, fun n _ => ?_, fun n hn => ?_⟩
  · rw [State.recordPoint, State.reset_pt, State.reset_port]
    exact ⟨nofun, nofun⟩
  · rw [State.reset_pt]
    rfl
  · rw [State.reset_pt] at hn
    cases hn

theorem State.reset_flightLaw : State.reset.FlightLaw
  | .routine => nofun
  | .priority => nofun

theorem State.reset_stagedLaw : State.reset.StagedLaw := fun n h => by
  rw [State.reset_pt] at h
  exact absurd rfl h

theorem Profile.default_legal : Profile.default.legal := by
  simp [Profile.legal, Profile.default, inEngRange, Band.inOrder, ordered]

theorem State.reset_rangeLaw : State.reset.RangeLaw := by
  refine ⟨fun n => ?_, by decide, by decide, nofun, fun i => ?_, nofun, nofun⟩
  · rw [State.reset_pt]
    exact ⟨Profile.default_legal, nofun, by decide⟩
  · rw [State.reset_port]
    decide

theorem State.reset_dueExpiries : State.reset.dueExpiries = [] := by decide

theorem State.reset_indexLaw : State.reset.IndexLaw := by
  refine ⟨fun b => ?_, fun b n => ?_, fun n _ => ?_, fun n hn => absurd hn (State.reset_pt_unnamed n),
    fun n _ hn => absurd hn (State.reset_pt_unnamed n)⟩
  · rw [State.reset_chain]
    exact .nil
  · rw [State.reset_chain]
    exact ⟨nofun, fun h => absurd h.1 (State.reset_pt_unnamed n)⟩
  · rw [State.reset_pt]
    rfl

/-- Settles O3: the lists, the hold table and the change sets are empty, every record is FREE and every port OFFLINE,
and no timer runs. -/
theorem resetStateMeetsEveryLaw : Obligations.ResetStateMeetsEveryLaw := by
  obtain ⟨hmode, hguard, henable⟩ := initialState_modeLaws false []
  obtain ⟨hconditions, hmarks, hcalm⟩ := (State.conditionLaws_iff _).1 (initialState_conditionLaws false [])
  have htimer : State.reset.TimerLaw := ⟨nofun, fun h => nomatch h.1⟩
  have hrun : State.reset.RunLaw := fun _ => ⟨rfl, nofun⟩
  have hholds : State.reset.HoldLaw := ⟨by decide, .nil, nofun⟩
  have hexpiry : State.reset.ExpiryLaw := fun _ c hc => by rw [State.reset_dueExpiries] at hc; cases hc
  have hchange : State.reset.ChangeLaw := fun p n h => by rw [State.reset_isChanged] at h; cases h
  exact ⟨hmode, hguard, henable, State.reset_scannerLaw, htimer, hrun, State.reset_listLaw,
    State.settled_of_rests (initialState_rests false []), State.reset_recordLaw, State.reset_flightLaw, hconditions,
    hmarks, hcalm, State.reset_stagedLaw, State.reset_rangeLaw, hholds, hexpiry, hchange, State.reset_indexLaw⟩

/-! ### Held in reset (R196) -/

theorem State.takes_of_held {s : State} (h : s.heldInReset = true) (p : CmdPort) (op : Byte) (ps : List Byte) :
    s.takes p op ps = false := by
  simp [State.takes, h]

theorem runCommand_held {c : Cmd} {p : CmdPort} {ps : List Byte} {own : State → Answer × State} {s : State}
    (h : s.heldInReset = true) : runCommand c p ps own s = .next s := by
  rw [runCommand_eq, State.takes_of_held h]
  rfl

theorem execUnknownOpcode_held {p : CmdPort} {op : Byte} {ps : List Byte} {s : State} (h : s.heldInReset = true) :
    execUnknownOpcode p op ps s = .next s := by
  rw [execUnknownOpcode, State.takes_of_held h]
  rfl

/-- Held in reset the part takes nothing but the end of power-on and the edges of RESET_N. -/
theorem exec_held {s : State} (h : s.heldInReset = true) {c : Instr} (hpower : ∀ high, c ≠ .powerOn high)
    (hedge : ∀ e, c ≠ .resetN e) : exec c s = .next s := by
  cases c with
  | powerOn high => exact absurd rfl (hpower high)
  | resetN edge => exact absurd rfl (hedge edge)
  | unknownOpcode => exact execUnknownOpcode_held h
  | commandFrame | fetch | fetchEnd | result | cancelAck | present | damagedMessage | timeout | cancelTimerExpiry
  | probeTimerExpiry | periodTick | holdExpiry | wakeGuardExpiry | ptrig =>
    simp only [exec, execCommandFrame, execFetch, execFetchEnd, execResult, execCancelAck, execPresent,
      execDamagedMessage, execTimeout, execCancelTimerExpiry, execProbeTimerExpiry, execPeriodTick, execHoldExpiry,
      execWakeGuardExpiry, execPtrig, onEvent_held h]
  | _ => exact runCommand_held h

/-- RESET_N at assertion: the part is held, CYM is driven low, and the rest of its content stands (R196, log
entry 13). -/
theorem exec_resetN_fall (s : State) :
    exec (.resetN .fall) s = .next { s with inReset := true, scan := { s.scan with cym := false } } := rfl

/-- Settles O4: the end of power-on and the release of RESET_N write the initial state, and nothing else acts on a part
held in reset. -/
theorem powerOnAndResetN : Obligations.PowerOnAndResetN := by
  refine ⟨State.reset_initialTable, rfl, rfl, fun high s => ⟨?_, ?_, ?_, fun hheld => ?_, fun hout hpower => ?_⟩⟩
  · exact ⟨_, rfl, State.reset_initialTable, rfl, rfl, rfl, rfl⟩
  · exact ⟨_, rfl, State.reset_initialTable, rfl, rfl, rfl, rfl⟩
  · refine ⟨_, exec_resetN_fall s, ?_, ?_, rfl⟩
    · exact (State.outputs_of_held rfl).2
    · exact (State.outputs_of_held rfl).1
  · have hreset := s.heldInReset_iff.2 hheld
    obtain ⟨hattn, hcym⟩ := State.outputs_of_held hreset
    exact ⟨hcym, hattn, fun c hpower hedge => exec_held hreset hpower hedge⟩
  · rw [State.cymHigh, State.heldInReset_eq_false.2 ⟨hout, hpower⟩]
    rfl

end Sys2Proof.Machine

/-! SUPPORT. The checks before a command's own rule and the bytes that cross the ports: mode and length, selectors,
the groups of EDIT, what each read reports, and what a fetch returns. The statements on frames and bursts, on
admission and selectors, on EDIT's checks, on the reads and on fetches are settled here. -/

namespace Sys2Proof.Machine

/-! ### Frames and bursts as bytes (R165, R198, R204) -/

/-- Settles O5: a frame with a good length and CRC is the frame built of what it holds. -/
theorem framesParseExactlyWhenBuilt : Obligations.FramesParseExactlyWhenBuilt := fun _ _ => parseFrame_eq_some

theorem seqOf_zeroExtend (seq : Seq) : seqOf (seq.zeroExtend 8) = some seq := by
  revert seq
  decide

theorem rangeOf_rangeByte (range : RangeFlag) : rangeOf (rangeByte range) = some range := by
  cases range <;> rfl

theorem classOf_byteOf (cls : Fin 16) : classOf (byteOf cls.val) = some cls := by
  revert cls
  decide

/-- The 16-bit number of the two bytes of a field is the field (R197). -/
theorem word16_bytes16 (w : BitVec 16) : word16 (w.extractLsb' 8 8) (w.extractLsb' 0 8) = w := by
  unfold word16
  ext i h
  rw [BitVec.getElem_append]
  split
  · simp [BitVec.getLsbD_eq_getElem h]
  · have hi : 8 + (i - 8) = i := by omega
    simp [hi, BitVec.getLsbD_eq_getElem h]

/-- A burst closed by its CRC is what its other bytes say (R204). -/
theorem decodeBurst_closed (l : List Byte) : decodeBurst (closed l) = decodeMessage l := by
  simp [decodeBurst, closed]

/-- The burst of an undamaged message decodes to it (R204). -/
theorem decodeBurst_linkRxBytes {m : LinkRx} (hm : m ≠ .damaged) : decodeBurst (linkRxBytes m) = m := by
  cases m with
  | result seq code range =>
    have hburst : linkRxBytes (.result seq code range) =
        closed [0x81#8, seq.zeroExtend 8, code.extractLsb' 8 8, code.extractLsb' 0 8, rangeByte range] := by
      cases range <;> rfl
    rw [hburst, decodeBurst_closed, decodeMessage, seqOf_zeroExtend, rangeOf_rangeByte, word16_bytes16]
    rfl
  | cancelAck seq =>
    rw [linkRxBytes, decodeBurst_closed, decodeMessage, seqOf_zeroExtend]
    rfl
  | present cls =>
    rw [linkRxBytes, decodeBurst_closed, decodeMessage, classOf_byteOf]
    rfl
  | damaged => exact absurd rfl hm

/-- A burst that decodes to an undamaged message is the burst of that message (R204). -/
theorem eq_linkRxBytes_of_decodeBurst {burst : List Byte} (hm : decodeBurst burst ≠ .damaged) :
    burst = linkRxBytes (decodeBurst burst) := by
  unfold decodeBurst at hm ⊢
  split
  · rename_i hcrc
    rw [if_pos hcrc] at hm
    rw [← closed_of_decodeMessage rfl hm, closed_dropLast hcrc]
  · exact absurd (if_neg ‹_›) hm

/-- Settles O6: decoding and building undo each other on undamaged messages. -/
theorem burstsDecodeExactlyWhenBuilt : Obligations.BurstsDecodeExactlyWhenBuilt := by
  intro burst m hm
  constructor
  · rintro rfl
    exact eq_linkRxBytes_of_decodeBurst hm
  · rintro rfl
    exact decodeBurst_linkRxBytes hm

/-! ### Mode admission and length (R173, R187, R201) -/

theorem admissionOf_eq_always {c : Cmd} :
    admissionOf c = .always ↔ c ∈ [Cmd.find, .readProfile, .readValue, .readChanged, .rlistRead, .plistRead,
      .condRead, .portStatus, .scanStatus, .status, .identify, .softReset] := by
  cases c <;> decide

theorem admissionOf_eq_activeOnly {c : Cmd} :
    admissionOf c = .activeOnly ↔ c ∈ [Cmd.scanStart, .runPriority, .portRestore] := by
  cases c <;> decide

/-- Outside ACTIVE and QUIET only the commands of every mode are executed (R187). -/
theorem refusalOfMode_busy {a : Admission} {m : Mode} (ha : a ≠ .always) (hm : m = .waking ∨ m = .quiescing) :
    refusalOfMode a m = some .busy := by
  cases a with
  | always => exact absurd rfl ha
  | activeOnly | settledModes => rcases hm with rfl | rfl <;> rfl

/-- In QUIET only the commands that need ACTIVE are refused (R187). -/
theorem refusalOfMode_quiet {a : Admission} (ha : a ≠ .activeOnly) : refusalOfMode a .quiet = none := by
  cases a with
  | activeOnly => exact absurd rfl ha
  | always | settledModes => rfl

/-- A length of neither the fixed part nor, where parameters may follow, more (R173). -/
theorem lengthFits_eq_false {c : Cmd} {k : Nat}
    (h : if c = .edit ∨ c = .plistSet then k < fixedLength c else k ≠ fixedLength c) :
    lengthFits c k = false := by
  have hvar : variableLength c = true ↔ c = .edit ∨ c = .plistSet := by cases c <;> decide
  unfold lengthFits
  by_cases hc : c = .edit ∨ c = .plistSet
  · rw [if_pos (hvar.2 hc)]
    rw [if_pos hc] at h
    exact decide_eq_false h.not_ge
  · rw [if_neg (mt hvar.1 hc)]
    rw [if_neg hc] at h
    exact decide_eq_false h

/-- Settles O9: the lists of R187 are the lines of `admissionOf`, and the table of lengths is `fixedLength`. -/
theorem modeAndLengthComeFirst : Obligations.ModeAndLengthComeFirst := by
  intro c p ps s ht always activeOnly fixed
  have halways : admissionOf c = .always ↔ always := admissionOf_eq_always
  have hactive : admissionOf c = .activeOnly ↔ activeOnly := admissionOf_eq_activeOnly
  have hfixed : fixed c = fixedLength c := by cases c <;> rfl
  rw [exec_row]
  refine ⟨fun hno hm => ?_, fun hc hm => ?_, fun hadmitted hlen => ?_⟩
  · exact runCommand_refused ht (refusalOfMode_busy (mt halways.1 hno) hm)
  · exact runCommand_refused ht (by rw [hactive.2 hc, hm]; rfl)
  · rw [hfixed] at hlen
    refine runCommand_short ht ?_ (lengthFits_eq_false hlen)
    rcases hadmitted with hc | hm | ⟨hm, hc⟩
    · rw [halways.2 hc, refusalOfMode_always]
    · rw [hm, refusalOfMode_active]
    · rw [hm, refusalOfMode_quiet (mt hactive.1 hc)]

/-! ### Selectors (R25, R29, R30, R202) -/

/-- The walk of R25 is the search of the chain for the tag. -/
theorem chainFind_eq_find? (s : State) (t : Tag) (fuel : Nat) (h : Option PointNo) :
    chainFind s t fuel h = (s.chainFrom fuel h).find? fun n => (s.pt n).tag = t := by
  induction fuel generalizing h with
  | zero => rfl
  | succ fuel ih =>
    cases h with
    | none => rfl
    | some n => by_cases ht : (s.pt n).tag = t <;> simp [chainFind, State.chainFrom, ht, ih]

/-- With a sound index the lookup of a tag finds exactly the named point that carries it (R25, R28). -/
theorem State.IndexLaw.tagLaw {s : State} (hs : s.IndexLaw) : s.TagLaw := by
  obtain ⟨-, hchain, -, hnonzero, hunique⟩ := hs
  intro t n
  constructor
  · intro h
    obtain ⟨htag, ht⟩ := s.lookup_tag t n h
    rw [State.lookup, if_neg ht, chainFind_eq_find?] at h
    obtain ⟨hnamed, -⟩ := (hchain (bucketOf t) n).1 (List.mem_of_find?_eq_some h)
    exact ⟨hnamed, htag⟩
  · rintro ⟨hnamed, rfl⟩
    rw [State.lookup, if_neg (hnonzero n hnamed), chainFind_eq_find?]
    refine find?_eq_some_of_unique ((hchain _ n).2 ⟨hnamed, rfl⟩) (decide_eq_true rfl) fun m hm htag => ?_
    obtain ⟨hm, -⟩ := (hchain _ m).1 hm
    exact hunique m n hm hnamed (of_decide_eq_true htag)

section

variable {s : State} {ps : List Byte} {i : Nat}

/-! What a selector block reads as (R202). -/

theorem selectorAt_undefined (h1 : byteAt ps i ≠ 0x01#8) (h2 : byteAt ps i ≠ 0x02#8) :
    selectorAt ps i = none := (if_neg h1).trans (if_neg h2)

theorem selectorAt_badNumber (h1 : byteAt ps i = 0x01#8)
    (hpad : byteAt ps (i + 1) ≠ 0x00#8 ∨ byteAt ps (i + 2) ≠ 0x00#8) : selectorAt ps i = none :=
  (if_pos h1).trans (if_neg (not_and_or.2 hpad))

theorem selectorAt_number (h1 : byteAt ps i = 0x01#8) (hpad1 : byteAt ps (i + 1) = 0x00#8)
    (hpad2 : byteAt ps (i + 2) = 0x00#8) : selectorAt ps i = some (.number (numAt16 ps (i + 3))) :=
  (if_pos h1).trans (if_pos ⟨hpad1, hpad2⟩)

theorem selectorAt_tag (h2 : byteAt ps i = 0x02#8) : selectorAt ps i = some (.tag (wordAt32 ps (i + 1))) :=
  (if_neg (by rw [h2]; decide)).trans (if_pos h2)

/-! What a name resolves to (R29). -/

theorem State.resolve_number_eq_ok {k : Nat} {n : PointNo} :
    s.resolve (some (.number k)) = .ok n ↔ n.val = k ∧ (s.pt n).state.named = true := by
  rw [eq_comm (a := n.val), ← s.resolveNumber_eq_some k n, State.resolve]
  cases s.resolveNumber k <;> simp

theorem State.resolve_number_noPoint {k : Nat}
    (h : ∀ n : PointNo, n.val = k → (s.pt n).state.named = false) :
    s.resolve (some (.number k)) = .error .noPoint := by
  have hnone : s.resolveNumber k = none := State.resolveNumber_eq_none.2 fun ⟨n, hn, hnamed⟩ =>
    Bool.false_ne_true ((h n hn).symm.trans hnamed)
  rw [State.resolve, hnone]

theorem State.resolve_tag_eq_ok (hs : s.TagLaw) {t : Tag} {n : PointNo} :
    s.resolve (some (.tag t)) = .ok n ↔ (s.pt n).state.named = true ∧ (s.pt n).tag = t := by
  rw [← hs t n, State.resolve]
  cases s.lookup t <;> simp

theorem State.lookup_eq_none (hs : s.TagLaw) {t : Tag}
    (h : ∀ n, (s.pt n).state.named = true → (s.pt n).tag ≠ t) : s.lookup t = none :=
  Option.eq_none_iff_forall_ne_some.2 fun n hn =>
    have ⟨hnamed, htag⟩ := (hs t n).1 hn
    h n hnamed htag

theorem State.resolve_tag_noTag (hs : s.TagLaw) {t : Tag}
    (h : ∀ n, (s.pt n).state.named = true → (s.pt n).tag ≠ t) :
    s.resolve (some (.tag t)) = .error .noTag := by
  rw [State.resolve, State.lookup_eq_none hs h]

/-- The commands whose parameters begin with a selector block (R201). -/
def selectorFirst : List Cmd :=
  [.readProfile, .readValue, .edit, .activate, .park, .unpark, .retire, .hold, .release, .rlistRemove, .abortPoint,
    .ack, .condClear]

/-- Each of them is a rule on the point its selector names (R30). -/
theorem ruleOf_selectorFirst {c : Cmd} (hc : c ∈ selectorFirst) (p : CmdPort) (ps : List Byte) :
    ∃ rule, ruleOf c p ps = withPoint ps 0 rule := by
  simp only [selectorFirst, List.mem_cons, List.not_mem_nil, or_false] at hc
  rcases hc with rfl | rfl | rfl | rfl | rfl | rfl | rfl | rfl | rfl | rfl | rfl | rfl | rfl
  all_goals exact ⟨_, rfl⟩

theorem admissionOf_selectorFirst {c : Cmd} (hc : c ∈ selectorFirst) : admissionOf c ≠ .activeOnly := by
  revert c
  decide

/-- A command whose selector does not resolve answers with the status of the resolution, before its own checks
(R30). -/
theorem ruleOf_unresolved {c : Cmd} {p : CmdPort} {st : Status}
    (h : c ∈ selectorFirst ∧ s.resolve (selectorAt ps 0) = .error st
      ∨ c = .rlistInsert ∧ s.resolve (selectorAt ps 2) = .error st) :
    ruleOf c p ps s = (⟨st, []⟩, s) := by
  rcases h with ⟨hc, hn⟩ | ⟨rfl, hn⟩
  · obtain ⟨rule, hrule⟩ := ruleOf_selectorFirst hc p ps
    rw [hrule, withPoint_error hn]
  · rw [ruleOf, rlistInsertRule, withPoint_error hn]

end

/-- In QUIET and ACTIVE the mode refuses only what needs ACTIVE (R187). -/
theorem refusalOfMode_of_works {s : State} {a : Admission} (hw : s.Works) (ha : a ≠ .activeOnly) :
    refusalOfMode a s.run.mode = none := by
  rcases hw with hm | hm
  · rw [hm, refusalOfMode_quiet ha]
  · rw [hm, refusalOfMode_active]

/-- Settles O11: a block reads as a number, a tag or nothing, a name resolves by the record or by the index, and each
command that names a point asks that first. -/
theorem selectorsResolveOrRefuse : Obligations.SelectorsResolveOrRefuse := by
  refine ⟨fun s ps i hs => ⟨fun h1 h2 => ?_, fun h1 hpad => ?_, fun h1 hpad1 hpad2 => ?_, fun h2 => ?_⟩,
    fun p ps s st c ht hmode hl hn => ?_⟩
  · rw [selectorAt_undefined h1 h2]
    rfl
  · rw [selectorAt_badNumber h1 hpad]
    rfl
  · rw [selectorAt_number h1 hpad1 hpad2]
    exact ⟨fun n => State.resolve_number_eq_ok, State.resolve_number_noPoint⟩
  · rw [selectorAt_tag h2]
    exact ⟨fun n => State.resolve_tag_eq_ok hs.tagLaw, State.resolve_tag_noTag hs.tagLaw⟩
  · refine exec_row_answered ht ?_ hl (ruleOf_unresolved hn)
    rcases hmode with hw | rfl | rfl
    · rcases hn with ⟨hc, -⟩ | ⟨rfl, -⟩
      · exact refusalOfMode_of_works hw (admissionOf_selectorFirst hc)
      · exact refusalOfMode_works hw
    · exact refusalOfMode_always _
    · exact refusalOfMode_always _

/-! ### The groups of EDIT (R3, R4, R202) -/

section

variable {code : Byte} {fs : List Byte}

theorem routeOf_eq_some {r : Route} :
    routeOf fs = some r ↔ fs.length = 3 ∧ numAt fs 0 = r.port.val ∧ numAt fs 1 = r.channel.val
      ∧ numAt fs 2 = r.settle.val := by
  obtain ⟨port, channel, settle⟩ := r
  have := port.isLt
  have := channel.isLt
  have := settle.isLt
  unfold routeOf
  split
  · simp_all [Fin.ext_iff]
  · simp only [reduceCtorEq, false_iff]
    omega

theorem scaleOf_eq_some {c : Scale} :
    scaleOf fs = some c ↔ fs.length = 6 ∧ c.gain = (wordAt16 fs 0).toInt ∧ c.offset = engAt fs 2
      ∧ numAt fs 5 = c.weight.val := by
  obtain ⟨gain, offset, weight⟩ := c
  have := weight.isLt
  unfold scaleOf
  split
  · simp_all [Fin.ext_iff, eq_comm]
  · simp only [reduceCtorEq, false_iff]
    omega

theorem bandOf_eq_some {b : Band} :
    bandOf fs = some b ↔ fs.length = 15 ∧ numAt fs 0 ≤ 15
      ∧ b.loTrip = limitAt fs 0 1 ∧ b.loWarn = limitAt fs 1 4 ∧ b.hiWarn = limitAt fs 2 7
      ∧ b.hiTrip = limitAt fs 3 10 ∧ b.hysteresis = numAt16 fs 13 := by
  obtain ⟨loTrip, loWarn, hiWarn, hiTrip, hysteresis⟩ := b
  simp [bandOf, and_assoc, Nat.lt_succ_iff, eq_comm]

theorem condClassOf_eq_some {b : Byte} {k : CondClass} :
    condClassOf b = some k ↔ b.toNat = 0 ∧ k = .notify ∨ b.toNat = 1 ∧ k = .latch := by
  have h0 : b.toNat = 0 ↔ b = 0x00#8 := by bv_omega
  have h1 : b.toNat = 1 ↔ b = 0x01#8 := by bv_omega
  rw [h0, h1, condClassOf]
  split_ifs with hnotify hlatch
  · subst hnotify
    simpa using eq_comm
  · subst hlatch
    simpa using eq_comm
  · simp [hnotify, hlatch]

theorem policyOf_eq_some {q : Policy} :
    policyOf fs = some q ↔ fs.length = 3 ∧ 1 ≤ numAt fs 0 ∧ numAt fs 0 ≤ 8
      ∧ q.confirm = numAt fs 0 ∧ q.staleLimit = numAt fs 2 ∧ condClassOf (byteAt fs 1) = some q.cls := by
  obtain ⟨confirm, cls, staleLimit⟩ := q
  unfold policyOf
  cases condClassOf (byteAt fs 1) <;> simp [and_assoc, eq_comm, and_comm, and_left_comm]

/-! A group is read by the reader of its code (R202). -/

theorem groupOf_eq_route {r : Route} : groupOf code fs = some (.route r) ↔ code = 0x00#8 ∧ routeOf fs = some r := by
  unfold groupOf
  split_ifs <;> simp_all

theorem groupOf_eq_scale {c : Scale} : groupOf code fs = some (.scale c) ↔ code = 0x01#8 ∧ scaleOf fs = some c := by
  unfold groupOf
  split_ifs <;> simp_all

theorem groupOf_eq_band {b : Band} : groupOf code fs = some (.band b) ↔ code = 0x02#8 ∧ bandOf fs = some b := by
  unfold groupOf
  split_ifs <;> simp_all

theorem groupOf_eq_policy {q : Policy} :
    groupOf code fs = some (.policy q) ↔ code = 0x03#8 ∧ policyOf fs = some q := by
  unfold groupOf
  split_ifs <;> simp_all

end

/-- The order check on one pair of limits, both present (R4). -/
theorem ordered_eq_true {le : Int → Int → Bool} {a b : Option Int} :
    ordered le a b = true ↔ ∀ x y, a = some x → b = some y → le x y = true := by
  cases a <;> cases b <;> simp [ordered]

/-- The six comparisons of R4: within the two sides `≤`, from a lower to an upper limit `<`. -/
theorem Band.inOrder_iff (b : Band) :
    b.inOrder = true ↔
      (∀ x y, b.loTrip = some x → b.loWarn = some y → x ≤ y)
      ∧ (∀ x y, b.hiWarn = some x → b.hiTrip = some y → x ≤ y)
      ∧ ∀ x y, b.loTrip = some x ∨ b.loWarn = some x → b.hiWarn = some y ∨ b.hiTrip = some y → x < y := by
  simp only [Band.inOrder, Bool.and_eq_true, ordered_eq_true, decide_eq_true_eq, or_imp, forall_and, and_assoc]
  tauto

/-- The groups that a code and its bytes hold, each field at its place (R202). -/
theorem groupOf_eq_some {code : Byte} {fs : List Byte} {g : Group} :
    groupOf code fs = some g ↔
      match g with
      | .route r => code = 0x00#8 ∧ fs.length = 3
          ∧ numAt fs 0 = r.port.val ∧ numAt fs 1 = r.channel.val ∧ numAt fs 2 = r.settle.val
      | .scale c => code = 0x01#8 ∧ fs.length = 6
          ∧ c.gain = (wordAt16 fs 0).toInt ∧ c.offset = engAt fs 2 ∧ numAt fs 5 = c.weight.val
      | .band b => code = 0x02#8 ∧ fs.length = 15 ∧ numAt fs 0 ≤ 15
          ∧ b.loTrip = limitAt fs 0 1 ∧ b.loWarn = limitAt fs 1 4 ∧ b.hiWarn = limitAt fs 2 7
          ∧ b.hiTrip = limitAt fs 3 10 ∧ b.hysteresis = numAt16 fs 13
      | .policy q => code = 0x03#8 ∧ fs.length = 3 ∧ 1 ≤ numAt fs 0 ∧ numAt fs 0 ≤ 8
          ∧ q.confirm = numAt fs 0 ∧ q.staleLimit = numAt fs 2
          ∧ (numAt fs 1 = 0 ∧ q.cls = .notify ∨ numAt fs 1 = 1 ∧ q.cls = .latch) := by
  cases g with
  | route r => rw [groupOf_eq_route, routeOf_eq_some]
  | scale c => rw [groupOf_eq_scale, scaleOf_eq_some]
  | band b => rw [groupOf_eq_band, bandOf_eq_some]
  | policy q =>
    rw [groupOf_eq_policy, policyOf_eq_some, condClassOf_eq_some]
    rfl

/-! What each code asks of its bytes to hold a group (R3, R202). -/

section

variable {fs : List Byte}

theorem exists_routeOf :
    (∃ r, routeOf fs = some r) ↔ fs.length = 3 ∧ numAt fs 0 ≤ 3 ∧ numAt fs 1 ≤ 63 ∧ numAt fs 2 ≤ 15 := by
  simp [routeOf, Nat.lt_succ_iff]

theorem exists_scaleOf : (∃ c, scaleOf fs = some c) ↔ fs.length = 6 ∧ numAt fs 5 ≤ 7 := by
  simp [scaleOf, Nat.lt_succ_iff]

theorem exists_bandOf : (∃ b, bandOf fs = some b) ↔ fs.length = 15 ∧ numAt fs 0 ≤ 15 := by
  simp [bandOf, Nat.lt_succ_iff]

theorem exists_policyOf :
    (∃ q, policyOf fs = some q) ↔ fs.length = 3 ∧ 1 ≤ numAt fs 0 ∧ numAt fs 0 ≤ 8 ∧ numAt fs 1 ≤ 1 := by
  have hcls : (∃ k, condClassOf (byteAt fs 1) = some k) ↔ numAt fs 1 ≤ 1 := by
    simp only [condClassOf_eq_some, exists_or, exists_and_left, exists_eq, and_true, numAt]
    omega
  rw [← hcls, policyOf]
  cases condClassOf (byteAt fs 1) <;> simp

theorem exists_groupOf {code : Byte} :
    (∃ g, groupOf code fs = some g) ↔
      (code = 0x00#8 ∧ ∃ r, routeOf fs = some r) ∨ (code = 0x01#8 ∧ ∃ c, scaleOf fs = some c)
        ∨ (code = 0x02#8 ∧ ∃ b, bandOf fs = some b) ∨ (code = 0x03#8 ∧ ∃ q, policyOf fs = some q) := by
  constructor
  · rintro ⟨g, hg⟩
    cases g with
    | route r => exact .inl ((groupOf_eq_route.1 hg).imp_right fun h => ⟨r, h⟩)
    | scale c => exact .inr (.inl ((groupOf_eq_scale.1 hg).imp_right fun h => ⟨c, h⟩))
    | band b => exact .inr (.inr (.inl ((groupOf_eq_band.1 hg).imp_right fun h => ⟨b, h⟩)))
    | policy q => exact .inr (.inr (.inr ((groupOf_eq_policy.1 hg).imp_right fun h => ⟨q, h⟩)))
  · rintro (⟨hc, r, h⟩ | ⟨hc, c, h⟩ | ⟨hc, b, h⟩ | ⟨hc, q, h⟩)
    · exact ⟨.route r, groupOf_eq_route.2 ⟨hc, h⟩⟩
    · exact ⟨.scale c, groupOf_eq_scale.2 ⟨hc, h⟩⟩
    · exact ⟨.band b, groupOf_eq_band.2 ⟨hc, h⟩⟩
    · exact ⟨.policy q, groupOf_eq_policy.2 ⟨hc, h⟩⟩

end

/-! ### EDIT's checks (R36, R37) -/

section

variable {p : CmdPort} {ps : List Byte} {s : State} {n : PointNo}

theorem editRule_revision (hn : s.resolve (selectorAt ps 0) = .ok n) (hh : s.blockingHold p n = none)
    (hrev : wordAt16 ps 5 ≠ (s.pt n).revision) :
    editRule p ps s = (⟨.revision, bytes16 (s.pt n).revision⟩, s) := by
  rw [editRule, withPoint_ok hn, unlessHeld_none hh]
  exact if_pos hrev

theorem editRule_badParam (hn : s.resolve (selectorAt ps 0) = .ok n) (hh : s.blockingHold p n = none)
    (hrev : wordAt16 ps 5 = (s.pt n).revision) (hg : groupOf (byteAt ps 7) (ps.drop 8) = none) :
    editRule p ps s = refuse .badParam s := by
  rw [editRule, withPoint_ok hn, unlessHeld_none hh, hg]
  exact if_neg (not_not.2 hrev)

theorem editRule_badBand (hn : s.resolve (selectorAt ps 0) = .ok n) (hh : s.blockingHold p n = none)
    (hrev : wordAt16 ps 5 = (s.pt n).revision) {g : Group} (hg : groupOf (byteAt ps 7) (ps.drop 8) = some g)
    (ho : g.inOrder = false) : editRule p ps s = refuse .badBand s := by
  rw [editRule, withPoint_ok hn, unlessHeld_none hh, hg]
  simp [hrev, ho]

end

/-- Settles O16: the checks in their order, the groups by their readers, and the order of limits pair by pair. -/
theorem editChecksRevisionThenGroup : Obligations.EditChecksRevisionThenGroup := by
  refine ⟨?checks, ?groups, Band.inOrder_iff⟩
  case checks =>
    intro p ps s n ht hw hlen hn hh code fs fits
    have answers {st data t} := exec_row_answered (c := .edit) (p := p) (st := st) (data := data) (t := t) ht
      (refusalOfMode_works hw) (decide_eq_true hlen)
    have hfits : fits ↔ ∃ g, groupOf code fs = some g := by
      rw [exists_groupOf, exists_routeOf, exists_scaleOf, exists_bandOf, exists_policyOf]
    refine ⟨fun hrev => answers (editRule_revision hn hh hrev), fun hrev hno => ?_, hfits,
      fun b hrev hg ho => answers (editRule_badBand hn hh hrev hg ho)⟩
    have hnone : groupOf code fs = none :=
      Option.eq_none_iff_forall_ne_some.2 fun g hg => hno (hfits.2 ⟨g, hg⟩)
    exact answers (editRule_badParam hn hh hrev hnone)
  case groups =>
    intro code fs g word eng limit
    rw [groupOf_eq_some]
    cases g <;> rfl

/-! ### What every read answers (R187)

The reads are executed in every mode, so that only their length is checked before their own rule. -/

theorem exec_always_answered {c : Cmd} {p : CmdPort} {ps : List Byte} {s t : State} {st : Status} {data : List Byte}
    (ht : s.Takes c p ps) (ha : admissionOf c = .always) (hl : lengthFits c ps.length = true)
    (hr : ruleOf c p ps s = (⟨st, data⟩, t)) : exec (rowOf c p ps) s = .next (t.answered p st data) :=
  exec_row_answered ht (by rw [ha, refusalOfMode_always]) hl hr

/-! ### FIND, READ_VALUE and READ_PROFILE (R20, R21, R31) -/

/-- A number that a flag adds to a byte of flags. -/
theorem ite_eq_mul_toNat (b : Bool) (k : Nat) : (if b = true then k else 0) = k * b.toNat := by
  cases b <;> simp

/-- Each present limit has its bit in the presence byte (R202). -/
theorem presenceByte_eq (b : Band) :
    presenceByte b = BitVec.ofNat 8 (b.loTrip.isSome.toNat + 2 * b.loWarn.isSome.toNat
      + 4 * b.hiWarn.isSome.toNat + 8 * b.hiTrip.isSome.toNat) := by
  simp only [presenceByte, ite_eq_mul_toNat, byteOf, Nat.one_mul]

section

variable {ps : List Byte} {s : State} {n : PointNo}

theorem findRule_found (h : s.lookup (wordAt32 ps 0) = some n) :
    findRule ps s = accept (pointBytes n ++ [pointStateCode (s.pt n).state] ++ bytes16 (s.pt n).revision) s := by
  rw [findRule, h]

theorem findRule_noTag (h : s.lookup (wordAt32 ps 0) = none) : findRule ps s = refuse .noTag s := by
  rw [findRule, h]

theorem readValueRule_answered (hn : s.resolve (selectorAt ps 0) = .ok n) :
    readValueRule ps s = accept (valueData (s.pt n)) s := withPoint_ok hn

theorem readProfileRule_answered (hn : s.resolve (selectorAt ps 0) = .ok n) {staged : Bool}
    (hc : flagOf (byteAt ps 5) = some staged) :
    readProfileRule ps s = accept (profileData n (s.pt n) staged) s := by
  rw [readProfileRule, withPoint_ok hn, hc]

theorem readProfileRule_badParam (hn : s.resolve (selectorAt ps 0) = .ok n)
    (hc : flagOf (byteAt ps 5) = none) : readProfileRule ps s = refuse .badParam s := by
  rw [readProfileRule, withPoint_ok hn, hc]

end

/-- Settles O14: the items are those of the rules, and the tag finds its point by the law of the index. -/
theorem pointReadsReport : Obligations.PointReadsReport := by
  intro p ps s n state quality level limit presence groups
  have hlimit : limitBytes = limit := rfl
  have hpresence (b : Band) : presenceByte b = presence b := presenceByte_eq b
  have hclass (k : CondClass) : classCode k = if k = .latch then 0x01#8 else 0x00#8 := by cases k <;> rfl
  have hgroups (pr : Profile) : profileBytes pr = groups pr := by
    simp only [profileBytes, hlimit, hpresence, hclass, groups, List.append_assoc]
    rfl
  refine ⟨?find, ?value, ?profile⟩
  case find =>
    intro ht hl hs
    have answers {st data t} := exec_always_answered (st := st) (data := data) (t := t) ht rfl (decide_eq_true hl)
    exact ⟨fun hnamed htag => answers (findRule_found ((hs.tagLaw _ n).2 ⟨hnamed, htag⟩)),
      fun hno => answers (findRule_noTag (State.lookup_eq_none hs.tagLaw hno))⟩
  case value =>
    intro ht hl hn
    exact exec_always_answered ht rfl (decide_eq_true hl) (readValueRule_answered hn)
  case profile =>
    intro ht hl hn head
    have answers {st data t} := exec_always_answered (st := st) (data := data) (t := t) ht rfl (decide_eq_true hl)
    have reported {staged : Bool} {data : List Byte} (hc : flagOf (byteAt ps 5) = some staged)
        (hdata : profileData n (s.pt n) staged = data) :=
      answers (hdata ▸ readProfileRule_answered hn hc)
    refine ⟨fun hc => reported (staged := false) (by rw [hc]; rfl) ?_,
      fun hc hno => reported (staged := true) (by rw [hc]; rfl) ?_,
      fun pr hc hpr => reported (staged := true) (by rw [hc]; rfl) ?_,
      fun h0 h1 => answers (readProfileRule_badParam hn ((if_neg h0).trans (if_neg h1)))⟩
    · rw [profileData, ← hgroups]
      rfl
    · rw [profileData, hno, ← hgroups]
      rfl
    · rw [profileData, hpr, ← hgroups]
      rfl

/-! ### RLIST_READ, PLIST_READ and COND_READ (R51, R61, R138) -/

section

variable {ps : List Byte} {s : State}

theorem rlistReadRule_badParam (h : ¬(numAt ps 0 ≤ 1 ∧ 1 ≤ numAt ps 2 ∧ numAt ps 2 ≤ 16)) :
    rlistReadRule ps s = refuse .badParam s := by
  unfold rlistReadRule
  split
  · rfl
  · rename_i staged hlist
    have hchoice : numAt ps 0 ≤ 1 := by
      by_contra hno
      rw [flagOf_eq_none (not_le.1 hno)] at hlist
      cases hlist
    exact if_pos (by omega)

/-- The active list is read where it is chosen, and where no staged one exists (R51). -/
theorem rlistReadRule_active (h : numAt ps 0 ≤ 1 ∧ 1 ≤ numAt ps 2 ∧ numAt ps 2 ≤ 16)
    (hactive : numAt ps 0 = 0 ∨ s.scan.staged = none) :
    rlistReadRule ps s = accept (listData false s.scan.active.length
      ++ [byteOf (window s.scan.active (numAt ps 1) (numAt ps 2)).length]
      ++ (window s.scan.active (numAt ps 1) (numAt ps 2)).flatMap entryData) s := by
  obtain ⟨h0, h1, h16⟩ := h
  have hnone : (if decide (numAt ps 0 = 1) then s.scan.staged else none) = none := by
    rcases hactive with h | h <;> simp [h]
  rw [rlistReadRule, flagOf_eq_some h0]
  refine (if_neg (by omega)).trans ?_
  rw [← numAt, hnone]

theorem rlistReadRule_staged {ns : List PointNo} (h : numAt ps 0 ≤ 1 ∧ 1 ≤ numAt ps 2 ∧ numAt ps 2 ≤ 16)
    (hchoice : numAt ps 0 = 1) (hstaged : s.scan.staged = some ns) :
    rlistReadRule ps s = accept (listData true ns.length
      ++ [byteOf (window ns (numAt ps 1) (numAt ps 2)).length]
      ++ (window ns (numAt ps 1) (numAt ps 2)).flatMap stagedEntryData) s := by
  obtain ⟨h0, h1, h16⟩ := h
  have hsome : (if decide (numAt ps 0 = 1) then s.scan.staged else none) = some ns := by
    simp [hchoice, hstaged]
  rw [rlistReadRule, flagOf_eq_some h0]
  refine (if_neg (by omega)).trans ?_
  rw [← numAt, hsome]

theorem plistReadRule_badParam (h : ¬(numAt ps 0 ≤ 15 ∧ 1 ≤ numAt ps 1 ∧ numAt ps 1 ≤ 16)) :
    plistReadRule ps s = refuse .badParam s := if_pos (by omega)

theorem plistReadRule_fits (h : numAt ps 0 ≤ 15 ∧ 1 ≤ numAt ps 1 ∧ numAt ps 1 ≤ 16) :
    plistReadRule ps s = accept ([byteOf s.scan.prio.length,
        byteOf (window s.scan.prio (numAt ps 0) (numAt ps 1)).length]
      ++ (window s.scan.prio (numAt ps 0) (numAt ps 1)).flatMap entryData) s := if_neg (by omega)

theorem condReadRule_badParam (h : ¬(numAt ps 0 ≤ 63 ∧ 1 ≤ numAt ps 1 ∧ numAt ps 1 ≤ 8)) :
    condReadRule ps s = refuse .badParam s := if_pos (by omega)

theorem condReadRule_fits (h : numAt ps 0 ≤ 63 ∧ 1 ≤ numAt ps 1 ∧ numAt ps 1 ≤ 8) :
    condReadRule ps s = accept ([byteOf s.cond.list.length]
      ++ num16 ((List.finRange 512).filter fun n => (s.pt n).unlisted).length
      ++ [byteOf (window s.cond.list (numAt ps 0) (numAt ps 1)).length]
      ++ (window s.cond.list (numAt ps 0) (numAt ps 1)).flatMap condEntryData) s := by
  rw [condReadRule, Table.count_eq]
  exact if_neg (by omega)

end

/-- Settles O22: each rule refuses what is out of range and else returns the window of its list. -/
theorem listReadsReport : Obligations.ListReadsReport := by
  intro p ps s outcome level
  refine ⟨?routine, ?priority, ?conditions⟩
  case routine =>
    intro ht hl w fits
    have answers {st data t} := exec_always_answered (st := st) (data := data) (t := t) ht rfl (decide_eq_true hl)
    exact ⟨fun hno => answers (rlistReadRule_badParam hno), fun h hactive => answers (rlistReadRule_active h hactive),
      fun ns h hchoice hstaged => answers (rlistReadRule_staged h hchoice hstaged)⟩
  case priority =>
    intro ht hl w fits
    have answers {st data t} := exec_always_answered (st := st) (data := data) (t := t) ht rfl (decide_eq_true hl)
    exact ⟨fun hno => answers (plistReadRule_badParam hno), fun h => answers (plistReadRule_fits h)⟩
  case conditions =>
    intro ht hl w fits
    have answers {st data t} := exec_always_answered (st := st) (data := data) (t := t) ht rfl (decide_eq_true hl)
    exact ⟨fun hno => answers (condReadRule_badParam hno), fun h => answers (condReadRule_fits h)⟩

/-! ### STATUS, SCAN_STATUS and PORT_STATUS (R81, R103, R176) -/

theorem State.pointsInUse_eq (s : State) :
    s.pointsInUse = ((List.finRange 512).filter fun n => (s.pt n).state ≠ .free).length := by
  rw [State.pointsInUse, Table.count_eq]
  refine congrArg List.length (List.filter_congr fun n _ => ?_)
  exact Bool.eq_iff_iff.2 (bne_iff_ne.trans decide_eq_true_iff.symm)

/-- The four priority flags, each at its bit (R203). -/
theorem priorityFlags_eq (s : State) :
    priorityFlags s = byteOf (s.scan.prioActive.toNat + 2 * s.scan.rerun.toNat + 4 * s.attn.prioDone.toNat
      + 8 * s.attn.prioLost.toNat) := by
  simp only [priorityFlags, ite_eq_mul_toNat, Nat.one_mul]

theorem cursorPosition_eq (es : List Entry) (atEnd : Nat) :
    cursorPosition es atEnd = ((es.map Entry.outcome).findIdx? fun o => o = .pending).getD atEnd := by
  rw [List.findIdx?_map, cursorPosition]
  simp only [Function.comp_def, beq_eq_decide]
  cases es.findIdx? fun e => decide (e.outcome = .pending) <;> rfl

theorem countOutcome_eq (es : List Entry) (o : EntryOutcome) :
    countOutcome es o = (es.filter fun e => e.outcome = o).length := by
  simp only [countOutcome, List.countP_eq_length_filter, beq_eq_decide]

theorem stagedLength_eq (ns : Option (List PointNo)) : stagedLength ns = (ns.map List.length).getD 0 := by
  cases ns <;> rfl

/-- A sequence number as one byte (R197). -/
theorem zeroExtend_eq_byteOf (seq : Seq) : seq.zeroExtend 8 = byteOf seq.toNat := by
  simp [byteOf]

section

variable {ps : List Byte} {s : State}

theorem portStatusRule_badParam (h : 3 < numAt ps 0 ∨ 1 < numAt ps 1) :
    portStatusRule ps s = refuse .badParam s := by
  unfold portStatusRule
  split
  · rename_i hi hclear
    rcases h with h | h
    · exact absurd (hi.symm.trans (portOf_eq_none h)) nofun
    · exact absurd (hclear.symm.trans (flagOf_eq_none h)) nofun
  · rfl

/-- PORT_STATUS reports the port as it stood, and with CLEAR the stray count goes to 0 (R103). -/
theorem portStatusRule_accepted {i : PortNo} (hi : i.val = numAt ps 0) (h : numAt ps 1 ≤ 1) :
    portStatusRule ps s = accept (portStatusData (s.port i))
      (if numAt ps 1 = 1 then { s with ports := s.ports.set i { s.port i with strayCount := 0 } } else s) := by
  rw [portStatusRule, portOf_eq_some hi, flagOf_eq_some h]
  simp only [decide_eq_true_eq]
  rfl

end

/-- Settles O29: the data of each rule, item by item. -/
theorem statusReadsReport : Obligations.StatusReadsReport := by
  intro p ps s c flag mode scanner phase counted
  have hcounted (es : List Entry) (o : EntryOutcome) : countOutcome es o = counted es o := countOutcome_eq es o
  have hscanMode (m : ScanMode) : scanModeCode m = if m = .cyclic then 0x01#8 else 0x00#8 := by cases m <;> rfl
  have horigin (o : Origin) : originCode o = if o = .priority then 0x01#8 else 0x00#8 := by cases o <;> rfl
  refine ⟨?status, ?scanStatus, ?portStatus⟩
  case status =>
    intro ht hl
    refine exec_always_answered ht rfl (decide_eq_true hl) (congrArg (accept · s) ?_)
    rw [statusData, priorityFlags_eq, maskByte_eq, maskByte_eq, State.pointsInUse_eq, List.append_assoc,
      List.append_assoc]
    rfl
  case scanStatus =>
    intro ht hl
    refine exec_always_answered ht rfl (decide_eq_true hl) (congrArg (accept · s) ?_)
    rw [scanStatusData, cursorPosition_eq, cursorPosition_eq, hscanMode, stagedLength_eq]
    simp only [hcounted]
    rfl
  case portStatus =>
    intro ht hl
    have answers {st data t} := exec_always_answered (st := st) (data := data) (t := t) ht rfl (decide_eq_true hl)
    refine ⟨fun h => answers (portStatusRule_badParam h), ?_⟩
    intro i hi h x
    refine answers ((portStatusRule_accepted hi h).trans (congrArg (accept · _) ?_))
    rw [portStatusData, zeroExtend_eq_byteOf]
    refine congrArg₂ (fun l m => _ ++ l ++ m) ?_ rfl
    cases x.phase.record with
    | none => rfl
    | some r =>
      simp only [recordData, zeroExtend_eq_byteOf, horigin]
      rfl

/-! ### Fetches (R163, R164, R168 to R170, R200) -/

section

variable {s : State} {c : CommandPort}

/-- A fetch of a port in DONE returns its response (R168). -/
theorem CommandPort.beginFetch_done {r : Response} (hc : c.state = .done r) :
    c.beginFetch = { c with fetching := some ⟨responseBytes r, true⟩ } := by
  simp [CommandPort.beginFetch, CommandPort.answerFetch, hc]

/-- A fetch of another port returns the NOT_READY marker (R169). -/
theorem CommandPort.beginFetch_waiting {f : Frame} (hc : c.state = .waiting f) :
    c.beginFetch = { c with fetching := some ⟨responseBytes (notReadyMarker c.overlap true), false⟩ } := by
  simp [CommandPort.beginFetch, CommandPort.answerFetch, hc]

theorem CommandPort.beginFetch_ready (hc : c.state = .ready) :
    c.beginFetch = { c with fetching := some ⟨responseBytes (notReadyMarker c.overlap false), false⟩ } := by
  simp [CommandPort.beginFetch, CommandPort.answerFetch, hc]

/-- The end of a fetch in progress: the port sent back the frame and FFh behind it (R200). -/
theorem CommandPort.endFetch_fetching {f : FetchInProgress} (hf : c.fetching = some f) (p : CmdPort) (n : Nat) :
    c.endFetch p n = { c with
      state := c.state.afterFetch f n
      fetching := none
      shifted := (if p = .host then [0xFF#8] else []) ++ shiftedOut f.bytes n } := by
  simp [CommandPort.endFetch, hf]

theorem CommandPort.endFetch_none (hf : c.fetching = none) (p : CmdPort) (n : Nat) : c.endFetch p n = c := by
  simp [CommandPort.endFetch, hf]

/-- The whole response of the buffer was delivered (R168). -/
theorem CmdPortState.afterFetch_delivered {st : CmdPortState} {f : FetchInProgress} {n : Nat}
    (hbuffer : f.fromBuffer = true) (hn : f.bytes.length ≤ n) (hst : ∃ r, st = .done r) :
    st.afterFetch f n = .ready := by
  obtain ⟨r, rfl⟩ := hst
  exact if_pos ⟨hbuffer, hn⟩

/-- A marker, a response cut short and a buffer that is gone leave the port (R168 to R170). -/
theorem CmdPortState.afterFetch_kept {st : CmdPortState} {f : FetchInProgress} {n : Nat}
    (h : f.fromBuffer = false ∨ n < f.bytes.length ∨ ∀ r, st ≠ .done r) : st.afterFetch f n = st := by
  cases st with
  | ready | waiting => rfl
  | done r =>
    refine if_neg fun ⟨hbuffer, hn⟩ => ?_
    rcases h with h | h | h
    · exact Bool.false_ne_true (h.symm.trans hbuffer)
    · exact hn.not_gt h
    · exact h r rfl

/-- Out of reset a fetch is the one transaction of its bus (R163, R164, R196). -/
theorem exec_fetch_spi (hr : s.heldInReset = false) :
    exec (.fetch .spi) s = .next (s.setCmd .host (s.cmd .host).beginFetch) :=
  onEvent_out (f := fun s => s.modCmd .host CommandPort.beginFetch) hr

theorem exec_fetch_i2c (hr : s.heldInReset = false) :
    exec (.fetch (.i2c s.i2cAddress)) s =
      .next ((s.setAcks [true]).setCmd .service (s.cmd .service).beginFetch) := by
  refine (onEvent_out (f := fun s => s.i2cRead _) hr).trans (congrArg _ ?_)
  rw [State.i2cRead, State.i2cAcknowledges_self]
  rfl

theorem exec_fetch_elsewhere (hr : s.heldInReset = false) {a : BitVec 7} (ha : a ≠ s.i2cAddress) :
    exec (.fetch (.i2c a)) s = .next (s.setAcks [false]) := by
  refine (onEvent_out (f := fun s => s.i2cRead _) hr).trans (congrArg _ ?_)
  simp [State.i2cRead, State.i2cAcknowledges, beq_eq_false_iff_ne.2 ha]

theorem exec_fetchEnd (hr : s.heldInReset = false) (p : CmdPort) (n : Nat) :
    exec (.fetchEnd p n) s = .next (s.setCmd p ((s.cmd p).endFetch p n)) :=
  onEvent_out (f := fun s => s.modCmd p fun c => c.endFetch p n) hr

end

theorem State.setCmd_self (s : State) (p : CmdPort) : s.setCmd p (s.cmd p) = s := by
  simp [State.setCmd, State.cmd]

/-- Settles O49: on either bus a fetch is `beginFetch` of the bus's own port, and its end `endFetch`. -/
theorem fetchesReturnTheResponse : Obligations.FetchesReturnTheResponse := by
  intro bus p s hr c flag code put returns marker
  refine ⟨fun hbus => ?begins, fun a ha => exec_fetch_elsewhere hr ha, fun k => ⟨fun hnone => ?idle, fun f hf => ?ends⟩⟩
  case begins =>
    have hfetch {f : FetchInProgress} (hf : c.beginFetch = { c with fetching := some f }) :
        exec (.fetch bus) s = .next (returns f) := by
      obtain ⟨rfl, rfl⟩ | ⟨rfl, rfl⟩ := hbus
      · rw [exec_fetch_spi hr, hf]
        rfl
      · rw [exec_fetch_i2c hr, hf]
        rfl
    exact ⟨fun r hc => hfetch (CommandPort.beginFetch_done hc), fun f hc => hfetch (CommandPort.beginFetch_waiting hc),
      fun hc => hfetch (CommandPort.beginFetch_ready hc)⟩
  case idle => rw [exec_fetchEnd hr, CommandPort.endFetch_none hnone, State.setCmd_self]
  case ends =>
    intro sentBack
    rw [exec_fetchEnd hr, CommandPort.endFetch_fetching hf]
    refine ⟨fun hbuffer hn hdone => ?_, fun hkept => ?_⟩
    · rw [CmdPortState.afterFetch_delivered hbuffer hn hdone]
      rfl
    · rw [CmdPortState.afterFetch_kept hkept]
      rfl

end Sys2Proof.Machine

/-! SUPPORT. The step itself: which command it takes from the queue, and what a tick of the time base leaves due where
none waits. The two statements on them are settled here. -/

namespace Sys2Proof.Machine

/-! ### The queue and a tick of the time base (log entries 3, 4 and 12) -/

/-- Settles O1: `step` takes the front of the queue by definition. -/
theorem stepRunsFrontCommand : Obligations.StepRunsFrontCommand := fun _ _ _ => rfl

theorem step_of_pending_nil {s : State} (hp : s.pending = []) : step s = .next s.idle := by simp [step, hp]

theorem State.idle_of_held {s : State} (hr : s.heldInReset = true) : s.idle = s := if_pos hr

theorem State.idle_out_of_reset {s : State} (hr : s.heldInReset = false) :
    s.idle = { s.elapse with pending := s.elapse.dueExpiries } := by simp [State.idle, hr]

theorem State.elapse_port (s : State) (i : PortNo) : s.elapse.port i = (s.port i).elapse := Table.get_map ..

section

variable {s : State} {c : Instr} {i : PortNo} {x : SamplePort}

/-- At a port a tick leaves due the expiry of the one timer its phase runs, where at most that tick was left. -/
theorem mem_dueAtPort_elapse :
    c ∈ dueAtPort i x.elapse ↔
      (c = .probeTimerExpiry i ∧ ∃ k, x.phase = .probing k ∧ k ≤ 1)
      ∨ (c = .timeout i ∧ ∃ r k, x.phase = .busy r k ∧ k ≤ 1)
      ∨ (c = .cancelTimerExpiry i ∧ ∃ r k, x.phase = .cancelling r k ∧ k ≤ 1) := by
  obtain ⟨phase⟩ := x
  cases phase with
  | offline | idle | faulted => simp [SamplePort.elapse, dueAtPort]
  | probing k | busy r k | cancelling r k =>
    obtain _ | _ | k := k <;> simp [SamplePort.elapse, dueAtPort]

/-- A tick brings a timer to 0 exactly where it runs with at most that tick left. -/
theorem map_pred_eq_some_zero {timer : Option Nat} :
    timer.map (fun k => k - 1) = some 0 ↔ ∃ k, timer = some k ∧ k ≤ 1 := by
  simp [Option.map_eq_some_iff, Nat.sub_eq_zero_iff_le]

/-- A tick leaves due what it leaves due at the ports, and the period, the wake guard and the holds that had at most
that tick left. -/
theorem State.mem_elapse_dueExpiries :
    c ∈ s.elapse.dueExpiries ↔
      (∃ i, c ∈ dueAtPort i (s.port i).elapse)
      ∨ (c = .periodTick ∧ ∃ k, s.scan.periodTimer = some k ∧ k ≤ 1)
      ∨ (c = .wakeGuardExpiry ∧ ∃ k, s.run.wakeGuard = some k ∧ k ≤ 1)
      ∨ ∃ h ∈ s.holds, c = .holdExpiry h.point ∧ h.left ≤ 1 := by
  have hperiod : s.elapse.scan.periodTimer = some 0 ↔ _ := map_pred_eq_some_zero
  have hguard : s.elapse.run.wakeGuard = some 0 ↔ _ := map_pred_eq_some_zero
  have hholds : c ∈ (s.elapse.holds.filter fun h => h.left = 0).map (fun h => .holdExpiry h.point) ↔
      ∃ h ∈ s.holds, c = .holdExpiry h.point ∧ h.left ≤ 1 := by
    simp [State.elapse, HoldRecord.elapse, Nat.sub_eq_zero_iff_le, and_assoc, and_comm, @eq_comm _ c]
  simp only [State.dueExpiries, State.elapse_port, hperiod, hguard, hholds, List.mem_append, List.mem_flatMap,
    List.mem_finRange, true_and, List.mem_ite_nil_right, List.mem_singleton, or_assoc, and_comm]

end

/-- Settles O2: a tick runs down each timer block by block, and each clause on the queue is the membership of its
expiry in what the tick leaves due. -/
theorem idleStepElapsesOneTick : Obligations.IdleStepElapsesOneTick := by
  intro s hp
  rw [step_of_pending_nil hp]
  refine ⟨fun hr => congrArg _ (State.idle_of_held hr), fun hr => ⟨_, congrArg _ (State.idle_out_of_reset hr), rfl,
    s.elapse_port, rfl, rfl, rfl, ?_⟩⟩
  simp only [State.mem_elapse_dueExpiries, mem_dueAtPort_elapse]
  refine ⟨fun i => ?probe, fun i => ?timeout, fun i => ?cancel, ?period, ?guard, fun n => ?hold, fun c hc => ?only⟩
  case only =>
    obtain ⟨i, ⟨rfl, _⟩ | ⟨rfl, _⟩ | ⟨rfl, _⟩⟩ | ⟨rfl, _⟩ | ⟨rfl, _⟩ | ⟨h, _, rfl, _⟩ := hc <;> simp
  case hold => simp [@eq_comm _ n]
  all_goals simp

end Sys2Proof.Machine

/-! SUPPORT. What one step can do, said once: a step is a sequence of acts, each a change of one list, one record, one
port or one block under the condition that the manual puts on it. A law that every act keeps is kept by every step. -/

namespace Sys2Proof.Machine

/-! ### The acts a step is made of -/

/-- An outcome that resolves an entry for good (R56, R68). -/
abbrev EntryOutcome.Closed (out : EntryOutcome) : Prop := out ≠ .pending ∧ out ≠ .inFlight

/-- No entry for point `n` is IN_FLIGHT in the list of origin `o`. -/
abbrev State.NotInFlight (s : State) (o : Origin) (n : PointNo) : Prop :=
  (⟨n, .inFlight⟩ : Entry) ∉ s.scan.entries o

/-- Some selector block names point `n` (R29). -/
abbrev State.Named (s : State) (n : PointNo) : Prop := ∃ name, s.resolve name = .ok n

/-- The rows that can bring a RESULT (R86, R204). -/
def measures : Instr → Bool
  | .result _ _ _ _ | .damagedMessage _ _ => true
  | _ => false

/-- What an act can make of the scan engine while every other block stays as it is (R48, R50, R58 to R60, R63 to R65,
R67 to R80). -/
inductive State.ScanAct (s : State) : Scan → Prop
  | resolve (o : Origin) {out : EntryOutcome} (hout : out.Closed) :
      s.ScanAct (s.scan.setEntries o (resolveCursor out (s.scan.entries o)))
  | handOver (o : Origin) (n : PointNo) {out : EntryOutcome} (hout : out.Closed) :
      s.ScanAct (s.scan.setEntries o (resolveInFlight n out (s.scan.entries o)))
  | rerun (hrun : s.scan.prioActive = true) : s.ScanAct { s.scan with rerun := false }.startRun
  | startRun (hrun : s.scan.prioActive = false) : s.ScanAct s.scan.startRun
  | holdRerun (hrun : s.scan.prioActive = true) : s.ScanAct { s.scan with rerun := true }
  | endRun (hclosed : allClosed s.scan.prio) : s.ScanAct { s.scan with rerun := false, prioActive := false }
  | begin (m : ScanMode) (hidle : s.scan.scanner = .idle) : s.ScanAct (s.scan.begin m).startPass
  | requestStop (hpass : s.scan.scanner = .pass) : s.ScanAct { s.scan with stopRequested := true }
  | nextInterval (hdue : s.scan.periodTimer = some 0) : s.ScanAct s.scan.nextInterval
  | startPass (hbusy : s.scan.scanner ≠ .idle) : s.ScanAct s.scan.startPass
  | late (hpass : s.scan.scanner = .pass) : s.ScanAct { s.scan with late := true }
  | promoteList : s.ScanAct s.scan.promoteList
  | countPass : s.ScanAct { s.scan with passCounter := s.scan.passCounter + 1#16, cym := true }
  | enterGap (hpass : s.scan.scanner = .pass) (hclosed : allClosed s.scan.active)
      (hmode : s.scan.scanMode = .cyclic) (hstop : s.scan.stopRequested = false) (hlate : s.scan.late = false) :
      s.ScanAct { s.scan with scanner := .gap }
  | goIdle (hclosed : s.scan.scanner = .pass → allClosed s.scan.active)
      (hstaged : s.scan.scanner ≠ .idle → s.scan.staged = none ∧ ∀ n, (s.pt n).staged = none) :
      s.ScanAct s.scan.goIdle
  | insert (k : Nat) (n : PointNo) : s.ScanAct (s.scan.insertPoint k n)
  | remove (n : PointNo) : s.ScanAct (s.scan.removePoint n)
  | clear : s.ScanAct s.scan.clearList
  | setPrio (ns : List PointNo) (hrun : s.scan.prioActive = false) :
      s.ScanAct { s.scan with prio := freshEntries ns }
  | config {period : Nat} (trigger : Bool) (hlow : 1 ≤ period) (hhigh : period ≤ 65535) :
      s.ScanAct { s.scan with period := period, trigger := trigger }

/-- What an act can make of record `n` while every other block stays as it is: a graded result, a fault, an aging, a
promotion, an EDIT, a change of state (R14 to R16, R36 to R46, R105, R111, R112). -/
inductive State.PointAct (c : Instr) (s : State) (n : PointNo) : Point → Prop
  | graded (code : BitVec 16) (range : RangeFlag) (hc : measures c = true) (hlive : (s.pt n).state = .live) :
      s.PointAct c n (graded code range (s.pt n))
  | faulted (hlive : (s.pt n).state = .live) : s.PointAct c n { s.pt n with quality := .portFault }
  | aged : s.PointAct c n (s.pt n).aged
  | promoted : s.PointAct c n (s.pt n).promoted
  | edited {p : CmdPort} {ps : List Byte} {g : Group} (hc : c = .edit p ps)
      (hg : groupOf (byteAt ps 7) (ps.drop 8) = some g) (ho : g.inOrder = true) :
      s.PointAct c n { (s.pt n).withActive ((s.pt n).active.write g) with revision := (s.pt n).revision + 1#16 }
  | staged {p : CmdPort} {ps : List Byte} {g : Group} (hc : c = .edit p ps)
      (hg : groupOf (byteAt ps 7) (ps.drop 8) = some g) (ho : g.inOrder = true) (hn : s.Named n)
      (hdraft : (s.pt n).state ≠ .draft) (hbusy : s.scan.scanner ≠ .idle) :
      s.PointAct c n { s.pt n with
        staged := some (((s.pt n).staged.getD (s.pt n).active).write g), revision := (s.pt n).revision + 1#16 }
  | activated {p : CmdPort} {ps : List Byte} (hc : c = .activate p ps) (hs : (s.pt n).state = .draft) :
      s.PointAct c n { activated (s.pt n) with revision := (s.pt n).revision + 1#16 }
  | parked {p : CmdPort} {ps : List Byte} (hc : c = .park p ps) (hs : (s.pt n).state = .live) :
      s.PointAct c n { parkedPoint (s.pt n) with revision := (s.pt n).revision + 1#16 }
  | unparked {p : CmdPort} {ps : List Byte} (hc : c = .unpark p ps) (hs : (s.pt n).state = .parked) :
      s.PointAct c n { unparkedPoint (s.pt n) with revision := (s.pt n).revision + 1#16 }

/-- What an act can make of sample port `i` while every other block stays as it is (R45, R91, R96 to R98, R100,
R101, R103). -/
inductive State.PortAct (s : State) (i : PortNo) : SamplePort → Prop
  | strays {k : Nat} (hk : k ≤ 255) : s.PortAct i { s.port i with strayCount := k }
  | configured {on : Bool} {timeout : Nat} (hlow : 1 ≤ timeout) (hhigh : timeout ≤ 255)
      (hfree : on = false → (s.port i).phase.draining = false) :
      s.PortAct i ((s.port i).configured s.run.mode on timeout)
  | restored (hm : s.run.mode = .active) (hp : (s.port i).phase = .offline ∨ (s.port i).phase = .faulted) :
      s.PortAct i (s.port i).enterProbing
  | answered {left : Nat} (cls : Fin 16) (hp : (s.port i).phase = .probing left) :
      s.PortAct i { s.port i with phase := .idle, cls := some cls, absent := false }
  | absent {left : Nat} (hp : (s.port i).phase = .probing left) : s.PortAct i (s.port i).foundAbsent
  | timedOut {r : ConvRecord} (hp : (s.port i).phase = .busy r 0) (hr : s.NotInFlight r.origin r.point) :
      s.PortAct i ((s.port i).timedOut r)
  | superseded : s.PortAct i (s.port i).supersedeRecord

/-- What an act can make of the hold table (R147, R149, R150). -/
inductive State.HoldsAct (c : Instr) (s : State) : List HoldRecord → Prop
  | renewed (n : PointNo) {time : Nat} (hlow : 1 ≤ time) (hhigh : time ≤ 255) :
      s.HoldsAct c (renewedHolds s.holds n (time * Config.holdUnit))
  | created {p : CmdPort} {ps : List Byte} {n : PointNo} {time : Nat} (hc : c = .hold p ps) (hlow : 1 ≤ time)
      (hhigh : time ≤ 255) (hn : s.Named n) (hnew : s.holdOn n = none)
      (hroom : s.holds.length < Config.holdCapacity) :
      s.HoldsAct c (s.holds ++ [⟨p, n, time * Config.holdUnit⟩])
  | filtered (q : HoldRecord → Bool) : s.HoldsAct c (s.holds.filter q)

/-- The port at the end of its outstanding record: after a RESULT taken in BUSY, an answer in CANCELLING, or the
expiry of the timer in CANCELLING (R90, R93, R94). -/
inductive SamplePort.EndsAs (x : SamplePort) (r : ConvRecord) : SamplePort → Prop
  | taken {left : Nat} (hp : x.phase = .busy r left) : x.EndsAs r { x with phase := .idle, timeoutCount := 0 }
  | released {left : Nat} (hp : x.phase = .cancelling r left) : x.EndsAs r x.released
  | expired {left : Nat} (hp : x.phase = .cancelling r left) : x.EndsAs r { x with phase := .faulted }

/-- A point is put in the change sets where it is LIVE or PARKED, where a staged profile is promoted, or where an EDIT
names it and its quality is past UNSCANNED (R45, R110 to R112, R156). -/
abbrev State.Changes (c : Instr) (s : State) (n : PointNo) : Prop :=
  (s.pt n).state.conditioned = true ∨ (s.pt n).staged ≠ none
    ∨ (∃ p ps, c = .edit p ps) ∧ s.Named n ∧ (s.pt n).quality ≠ .unscanned

/-- A retirement but for its condition entry: the index, the record, the lists, the hold table and the change sets
(R17, R18, R62). -/
def State.retired (s : State) (n : PointNo) : State :=
  let t := ((s.unlink n).modPt n retiredRecord).modScan fun c => c.without n
  (t.setHolds (holdsWithout t.holds n)).unmark n

/-- One act of the step of row `c`. -/
inductive Act (c : Instr) (s : State) : State → Prop
  | outside (cmdPorts : Both CommandPort) (servedLast : CmdPort) (attn : Attention) (i2cAcks : List Bool) :
      Act c s { s with cmdPorts := cmdPorts, servedLast := servedLast, attn := attn, i2cAcks := i2cAcks }
  | run {r : RunControl} (hmode : r.mode = .quiet → s.run.mode = .quiet)
      (hguard : ∀ k, r.wakeGuard = some k → k = Config.wakeGuardTicks ∨ s.run.wakeGuard = some k) :
      Act c s (s.setRun r)
  | holds {hs : List HoldRecord} (h : s.HoldsAct c hs) : Act c s (s.setHolds hs)
  | changed {sets : Both ChangeSet} (h : ∀ p n, (sets.get p).members.get n = true → s.isChanged p n = true) :
      Act c s (s.setChanged sets)
  | scan {x : Scan} (h : s.ScanAct x) : Act c s { s with scan := x }
  | record {n : PointNo} {x : Point} (h : s.PointAct c n x) : Act c s (s.setPt n x)
  | conditions {t : State} (h : s.ConditionMoves t)
      (hcounter : ∀ n, (t.pt n).confirmCounter ≤ (s.pt n).confirmCounter
        ∨ (t.pt n).confirmCounter ≤ (s.pt n).active.policy.confirm) : Act c s t
  | marked {n : PointNo} (h : s.Changes c n) : Act c s (s.mark n)
  | port {i : PortNo} {x : SamplePort} (h : s.PortAct i x) : Act c s (s.setPort i x)
  | dispatched (o : Origin) {n : PointNo} (hn : cursorPoint (s.scan.entries o) = some n)
      (he : s.examine n = .dispatched) : Act c s (s.dispatch o n)
  | withdrawn (o : Origin) : Act c s (s.withdraw o)
  | aborted {n : PointNo} {i : PortNo} {r : ConvRecord} (h : s.abortable n = some (i, r)) :
      Act c s ((s.handOver r.origin n .cancelled).modPort i SamplePort.cancelRequest)
  | ended {i : PortNo} {r : ConvRecord} {x : SamplePort} (h : (s.port i).EndsAs r x)
      (hr : ∀ left, (s.port i).phase = .busy r left → s.NotInFlight r.origin r.point) :
      Act c s ((s.setPort i x).endRecord r.point)
  | cancelAll (hidle : s.scan.scanner = .idle) (hrun : s.scan.prioActive = false) :
      Act c s { s with ports := s.ports.map SamplePort.cancelRequest }
  | quiet (hfree : ∀ i, (s.port i).phase.draining = false) : Act c s s.goQuiet
  | waking (hquiet : s.run.mode = .quiet) : Act c s (s.probeEnabled.setMode .waking)
  | defined {p : CmdPort} {ps : List Byte} {n : PointNo} {t : Tag} (hc : c = .define p ps) (ht : t ≠ 0#32)
      (hnew : s.lookup t = none) (hfree : (s.pt n).state = .free) :
      Act c s ((s.setPt n (definedRecord (s.pt n) t)).link n t)
  | retired {p : CmdPort} {ps : List Byte} {n : PointNo} (hc : c = .retire p ps) (hn : s.Named n) :
      Act c s (s.retired n)
  | softReset {p : CmdPort} {ps : List Byte} (hc : c = .softReset p ps) : Act c s (s.softReset p)
  | initial {high inReset poweringUp : Bool} (hc : (∃ b, c = .powerOn b) ∨ ∃ e, c = .resetN e) :
      Act c s { initialState high s.pending with inReset := inReset, poweringUp := poweringUp }
  | resetFall : Act c s { s.modScan (fun x => { x with cym := false }) with inReset := true }

/-- What the step of row `c` can come to: acts, one after another. -/
inductive Acts (c : Instr) (s : State) : State → Prop
  | refl : Acts c s s
  | tail {t u : State} (h : Acts c s t) (hact : Act c t u) : Acts c s u

theorem Act.acts {c : Instr} {s t : State} (h : Act c s t) : Acts c s t := .tail .refl h

theorem Acts.trans {c : Instr} {s t u : State} (h : Acts c s t) (k : Acts c t u) : Acts c s u := by
  induction k with
  | refl => exact h
  | tail _ hact ih => exact ih.tail hact

/-- A law that every act keeps is kept by acts one after another. -/
theorem Acts.keep {c : Instr} {P : State → Prop} (h : ∀ {s t}, Act c s t → P s → P t) {s t : State}
    (hst : Acts c s t) (hs : P s) : P t := by
  induction hst with
  | refl => exact hs
  | tail _ hact ih => exact h hact ih

/-! ### The scan engine's part of a step as acts (R42 to R45, R50, R65 to R69, R73, R74, R79, R112) -/

section

variable {c : Instr}

/-- A step that leaves everything but command ports, attention logic and acknowledge bits. -/
theorem Acts.outside {s t : State} (h : t = { s with
    cmdPorts := t.cmdPorts, servedLast := t.servedLast, attn := t.attn, i2cAcks := t.i2cAcks }) : Acts c s t :=
  h ▸ (Act.outside ..).acts

theorem Acts.modScan {s : State} {f : Scan → Scan} (h : s.ScanAct (f s.scan)) : Acts c s (s.modScan f) :=
  (Act.scan h).acts

theorem Acts.foldl {α : Type} {f : State → α → State} (hf : ∀ s a, Acts c s (f s a)) (l : List α) (s : State) :
    Acts c s (l.foldl f s) := by
  induction l generalizing s with
  | nil => exact .refl
  | cons a l ih => exact (hf s a).trans (ih _)

theorem Acts.supersede (s : State) (n : PointNo) : Acts c s (s.supersede n) := by
  unfold State.supersede
  split
  · exact (Act.port .superseded).acts
  · exact .refl

/-- A record written together with the effects of a changed ROUTE group on change sets and outstanding record
(R44, R45). -/
def State.rerouteAs (s : State) (n : PointNo) (x : Point) : State :=
  ((if (s.pt n).quality = .unscanned then s else s.mark n).setPt n x).supersede n

theorem Acts.rerouteAs {s : State} {n : PointNo} {x : Point} (hx : ∀ u : State, u.pt = s.pt → u.PointAct c n x)
    (hn : (s.pt n).quality ≠ .unscanned → s.Changes c n) : Acts c s (s.rerouteAs n x) := by
  unfold State.rerouteAs
  refine .trans ?_ (.supersede ..)
  split
  · exact (Act.record (hx s rfl)).acts
  · exact (Act.marked (hn ‹_›)).acts.tail (.record (hx _ rfl))

theorem State.routeEffects_modPt (s : State) (n : PointNo) {f : Point → Point}
    (hq : (f (s.pt n)).quality = (s.pt n).quality) :
    (s.modPt n f).routeEffects n = s.rerouteAs n (f (s.pt n)).routeChanged := by
  unfold State.routeEffects State.rerouteAs
  simp only [State.modPt_pt_self, hq, State.modPt_modPt]
  split <;> rfl

/-- A write of an active profile is one write of the record, with the effects of a changed ROUTE group. -/
theorem State.writeActive_eq_ite (s : State) (n : PointNo) (pr : Profile) :
    s.writeActive n pr =
      if (s.pt n).active.route = pr.route then s.setPt n ((s.pt n).withActive pr)
      else s.rerouteAs n ((s.pt n).withActive pr) := by
  rw [State.writeActive_eq]
  split
  · rename_i hr
    rw [State.modPt, Point.withScale_of_route hr]
  · rename_i hr
    have hq : (Point.withScale pr (s.pt n)).quality = (s.pt n).quality := rfl
    rw [State.routeEffects_modPt s n hq, Point.withScale_routeChanged hr]

theorem State.setPt_setPt (s : State) (n : PointNo) (x y : Point) : (s.setPt n x).setPt n y = s.setPt n y := by
  simp [State.setPt]

theorem State.rerouteAs_setPt (s : State) (n : PointNo) {x : Point} (y : Point)
    (hq : x.quality = (s.pt n).quality) : (s.setPt n x).rerouteAs n y = s.rerouteAs n y := by
  have hmark : (s.setPt n x).mark n = (s.mark n).setPt n x := rfl
  unfold State.rerouteAs
  simp only [State.setPt_pt_self, hq, hmark]
  split <;> simp only [State.setPt_setPt]

theorem State.promotePoint_eq_ite {s : State} {n : PointNo} {pr : Profile} (h : (s.pt n).staged = some pr) :
    s.promotePoint n =
      if (s.pt n).active.route = pr.route then s.setPt n (s.pt n).promoted else s.rerouteAs n (s.pt n).promoted := by
  have hx : (({ s.pt n with staged := none } : Point)).withActive pr = (s.pt n).promoted :=
    (Point.promoted_of_some h).symm
  rw [State.promotePoint_of_some h, State.modPt, State.writeActive_eq_ite, State.setPt_pt_self, hx,
    State.setPt_setPt]
  exact if_congr Iff.rfl rfl (State.rerouteAs_setPt s n _ rfl)

theorem Acts.promotePoint (s : State) (n : PointNo) : Acts c s (s.promotePoint n) := by
  cases h : (s.pt n).staged with
  | none => rw [State.promotePoint_of_none h]; exact .refl
  | some pr =>
    rw [State.promotePoint_eq_ite h]
    split
    · exact (Act.record .promoted).acts
    · exact .rerouteAs (fun u hu => hu ▸ .promoted) fun _ => .inr (.inl (by simp [h]))

theorem Acts.promoteProfiles (s : State) : Acts c s s.promoteProfiles := .foldl Acts.promotePoint _ s

theorem Point.live_of_stales {x : Point} (h : x.stales = true) : x.state = .live := by
  simp only [Point.stales, Bool.and_eq_true, beq_iff_eq] at h
  obtain ⟨⟨⟨hlive, -⟩, -⟩, -⟩ := h
  exact hlive

@[simp] theorem Point.aged_state (x : Point) : x.aged.state = x.state := by unfold Point.aged; split <;> rfl

theorem Acts.agePoint (s : State) (n : PointNo) : Acts c s (s.agePoint n) := by
  have haged : Acts c s (s.modPt n Point.aged) := (Act.record .aged).acts
  rw [State.agePoint_eq]
  split
  · refine haged.tail (.marked (.inl ?_))
    rw [State.modPt_pt_self, Point.aged_state, Point.live_of_stales ‹_›]
    rfl
  · exact haged

theorem Acts.ageEntries (s : State) (es : List Entry) : Acts c s (s.ageEntries es) :=
  .foldl (f := fun (t : State) (e : Entry) => t.agePoint e.point) (fun t e => Acts.agePoint t e.point) es s

theorem Point.promoted_staged (x : Point) : x.promoted.staged = none := by
  cases h : x.staged with
  | none => rw [Point.promoted_of_none h, h]
  | some pr => rw [Point.promoted_of_some h]; rfl

theorem Point.aged_staged (x : Point) : x.aged.staged = x.staged := by unfold Point.aged; split <;> rfl

theorem State.promoteProfiles_staged (s : State) (n : PointNo) : (s.promoteProfiles.pt n).staged = none := by
  obtain ⟨-, hpt, -⟩ := s.promoteProfiles_promotesTo
  rw [hpt, Point.promoted_staged]

/-- What aging leaves in every record stays through the aging of a list. -/
theorem State.ageEntries_pt_induct {Q : Point → Prop} (hQ : ∀ x : Point, Q x → Q x.aged) (es : List Entry)
    {s : State} {n : PointNo} (h : Q (s.pt n)) : Q ((s.ageEntries es).pt n) := by
  rw [State.ageEntries_eq]
  generalize es.map Entry.point = l
  induction l generalizing s with
  | nil => exact h
  | cons m l ih =>
    refine ih ?_
    rw [State.agePoint_acts.pt]
    split
    · subst_vars; exact hQ _ h
    · exact h

theorem Scan.promoteList_staged (x : Scan) : x.promoteList.staged = none := by
  unfold Scan.promoteList
  split
  · rfl
  · assumption

theorem Scan.promoteList_scanner (x : Scan) : x.promoteList.scanner = x.scanner := by
  unfold Scan.promoteList; split <;> rfl

theorem allClosed_freshEntries (ns : List PointNo) : allClosed (freshEntries ns) := by
  simp [allClosed, freshEntries, Entry.isOpen]

theorem Scan.promoteList_closed {x : Scan} (h : allClosed x.active) : allClosed x.promoteList.active := by
  unfold Scan.promoteList
  split
  · exact allClosed_freshEntries _
  · exact h

/-- The next scanner state at a pass-end, once everything staged has been promoted (R69). -/
theorem Acts.afterPass {s : State} (halted : Bool) (hpass : s.scan.scanner = .pass) (hclosed : allClosed s.scan.active)
    (hlist : s.scan.staged = none) (hstaged : ∀ n, (s.pt n).staged = none) :
    Acts c s (s.modScan fun x => x.afterPass halted) := by
  refine .modScan ?_
  unfold Scan.afterPass
  split
  · exact .goIdle (fun _ => hclosed) fun _ => ⟨hlist, hstaged⟩
  rename_i hgo
  simp only [not_or, Bool.not_eq_true] at hgo
  obtain ⟨-, hstop, hmode⟩ := hgo
  have hmode : s.scan.scanMode = .cyclic := by
    cases h : s.scan.scanMode with
    | oneShot => exact absurd h hmode
    | cyclic => rfl
  split
  · exact .startPass (by simp [hpass])
  · exact .enterGap hpass hclosed hmode hstop (by simpa using ‹¬s.scan.late = true›)

theorem Acts.passEnd {s : State} (h : s.scan.passOver = true) (halted : Bool) : Acts c s (s.passEnd halted) := by
  obtain ⟨hpass, hclosed⟩ := s.scan.passOver_iff.1 h
  have haged : Acts c s (s.promoteProfiles.ageEntries s.scan.active) :=
    (Acts.promoteProfiles s).trans (.ageEntries ..)
  have hscan : (s.promoteProfiles.ageEntries s.scan.active).scan = s.scan := by
    rw [State.ageEntries_scan, State.promoteProfiles_scan]
  have hstaged (n : PointNo) : ((s.promoteProfiles.ageEntries s.scan.active).pt n).staged = none :=
    State.ageEntries_pt_induct (Q := fun x => x.staged = none) (fun x hx => x.aged_staged.trans hx) _
      (s.promoteProfiles_staged n)
  have hcount := (haged.tail (.scan .promoteList)).tail (.scan .countPass)
  refine hcount.trans (.afterPass halted ?_ ?_ ?_ hstaged)
  · exact (Scan.promoteList_scanner _).trans ((congrArg Scan.scanner hscan).trans hpass)
  · refine Scan.promoteList_closed ?_
    rw [hscan]
    exact hclosed
  · exact Scan.promoteList_staged _

theorem Acts.modAttn (s : State) (f : Attention → Attention) : Acts c s (s.modAttn f) := .outside rfl

theorem Acts.runEnd {s : State} (h : s.scan.runOver = true) : Acts c s s.runEnd := by
  obtain ⟨hrun, hclosed⟩ := s.scan.runOver_iff.1 h
  refine (Acts.modAttn s _).trans (.modScan ?_)
  split
  · exact .rerun hrun
  · rename_i hr
    have hrest : ({ s.scan with prioActive := false } : Scan)
        = { s.scan with rerun := false, prioActive := false } := by
      have : s.scan.rerun = false := by simpa using hr
      rw [← this]
    rw [State.modAttn_scan, hrest]
    exact .endRun hclosed

theorem Acts.resolveAtCursor (s : State) (o : Origin) {out : EntryOutcome} (hout : out.Closed) :
    Acts c s (s.resolveAtCursor o out) := .modScan (.resolve o hout)

theorem Acts.handOver (s : State) (o : Origin) (n : PointNo) {out : EntryOutcome} (hout : out.Closed) :
    Acts c s (s.handOver o n out) := .modScan (.handOver o n hout)

theorem Acts.faultPoint {s : State} {n : PointNo} (h : (s.pt n).state = .live) : Acts c s (s.faultPoint n) := by
  have hquality : Acts c s (s.modPt n fun x => { x with quality := .portFault }) := (Act.record (.faulted h)).acts
  refine hquality.tail (.marked (.inl ?_))
  rw [State.modPt_pt_self]
  exact h ▸ rfl

theorem Acts.engineMove {s t : State} (h : s.engineMove = some t) : Acts c s t := by
  rcases State.engineMove_cases h with
    ⟨hpass, rfl⟩ | ⟨-, hrun, rfl⟩ | ⟨o, n, -, -, -, hn, ⟨-, rfl⟩ | ⟨he, rfl⟩ | ⟨he, rfl⟩⟩
  · exact .passEnd hpass false
  · exact .runEnd hrun
  · exact .resolveAtCursor s o (by decide)
  · exact (Acts.resolveAtCursor s o (out := .faulted) (by decide)).trans (.faultPoint (s.live_of_examine_faulted he))
  · exact (Act.dispatched o hn he).acts

theorem Acts.settle (s : State) : Acts c s s.settle :=
  State.settle_induct (P := Acts c s) (fun _ _ hm h => h.trans (.engineMove hm)) .refl

/-- The engine's part of an event follows the event's acts. -/
theorem Acts.settled {s t : State} (h : Acts c s t) : Acts c s t.settle := h.trans (.settle t)

theorem cancelOpen_closed (es : List Entry) : allClosed (cancelOpen es) := by
  intro e he
  obtain ⟨f, -, rfl⟩ := List.mem_map.1 he
  split
  · rfl
  · simpa using ‹¬f.isOpen = true›

theorem Scan.setEntries_entries (x : Scan) (o o' : Origin) (es : List Entry) :
    (x.setEntries o es).entries o' = if o = o' then es else x.entries o' := by
  cases o <;> cases o' <;> rfl

theorem State.withdraw_closed (s : State) (o : Origin) : allClosed ((s.withdraw o).scan.entries o) := by
  rw [State.withdraw_scan, Scan.setEntries_entries, if_pos rfl]
  exact cancelOpen_closed _

theorem State.promote_scan (s : State) : s.promote.scan = s.scan.promoteList := by
  rw [State.promote, State.modScan_scan, State.promoteProfiles_scan]

theorem State.promote_pt (s : State) : s.promote.pt = s.promoteProfiles.pt := State.modScan_pt ..

/-- Everything staged is promoted in GAP, and the scanner goes IDLE (R42, R72, R74). -/
theorem Acts.leaveGap {s : State} (hgap : s.scan.scanner = .gap) : Acts c s (s.promote.modScan Scan.goIdle) := by
  have hpromote : Acts c s s.promote := (Acts.promoteProfiles s).trans (.modScan .promoteList)
  have hscanner : s.promote.scan.scanner = .gap := by
    rw [State.promote_scan, Scan.promoteList_scanner, hgap]
  have hlist : s.promote.scan.staged = none := by rw [State.promote_scan, Scan.promoteList_staged]
  have hstaged (n : PointNo) : (s.promote.pt n).staged = none := by
    rw [State.promote_pt, State.promoteProfiles_staged]
  exact hpromote.trans (.modScan (.goIdle (fun hp => nomatch hscanner.symm.trans hp) fun _ => ⟨hlist, hstaged⟩))

theorem Acts.haltRoutine (s : State) : Acts c s s.haltRoutine := by
  cases h : s.scan.scanner with
  | pass =>
    rw [State.haltRoutine_pass h]
    refine (Act.withdrawn .routine).acts.trans (.passEnd ?_ true)
    refine (Scan.passOver_iff _).2 ⟨?_, s.withdraw_closed .routine⟩
    rw [State.withdraw_scan]; exact h
  | gap => rw [State.haltRoutine_gap h]; exact .leaveGap h
  | idle =>
    rw [State.haltRoutine_idle h]
    exact .modScan (.goIdle (fun hp => nomatch h.symm.trans hp) fun hp => absurd h hp)

theorem Acts.halt (s : State) : Acts c s s.halt := by
  refine (Acts.haltRoutine s).trans ?_
  show Acts c s.haltRoutine s.haltRoutine.abortRun
  unfold State.abortRun
  split
  · exact (Act.withdrawn .priority).acts.trans (.modScan (.endRun (State.withdraw_closed _ .priority)))
  · exact .refl

theorem Acts.requestRun (s : State) : Acts c s s.requestRun := by
  unfold State.requestRun
  split
  · rename_i hrun
    split
    · exact .modAttn s _
    · exact .modScan (.holdRerun hrun)
  · rename_i hrun
    have hrun : s.scan.prioActive = false := by simpa using hrun
    exact (Acts.modScan (.startRun hrun)).settled

end

/-! ### Level changes and results as acts (R90, R105, R125, R130 to R137) -/

section

variable {s : State}

/-- What a change of one record leaves in it stays in every record. -/
theorem State.modPt_pt_same {β : Type} (g : Point → β) {n : PointNo} {f : Point → Point}
    (h : g (f (s.pt n)) = g (s.pt n)) (m : PointNo) : g ((s.modPt n f).pt m) = g (s.pt m) := by
  rw [State.modPt_pt]
  split
  · subst_vars; exact h
  · rfl

theorem State.refill_counter (s : State) (m : PointNo) :
    (s.refill.pt m).confirmCounter = (s.pt m).confirmCounter := by
  unfold State.refill
  split
  · exact State.modPt_pt_same (s := s.createEntry _ _ _) Point.confirmCounter rfl m
  · rfl

theorem State.removeEntry_counter (s : State) (n m : PointNo) :
    ((s.removeEntry n).pt m).confirmCounter = (s.pt m).confirmCounter := by
  rw [State.removeEntry_eq, State.refill_counter]
  exact State.modPt_pt_same (s := s.dropEntry n) Point.confirmCounter rfl m

/-- A level change ends the confirmation of its point and of no other (R125). -/
theorem State.levelChange_counter (s : State) (n m : PointNo) (new : Level) :
    ((s.levelChange n new).pt m).confirmCounter ≤ (s.pt m).confirmCounter := by
  have rewrite {x : Point} (u : State) (hu : u.pt = s.pt) (hx : x.confirmCounter = 0) :
      ((u.setPt n x).pt m).confirmCounter ≤ (s.pt m).confirmCounter := by
    rw [State.setPt_pt, hu]
    split
    · exact hx ▸ Nat.zero_le _
    · exact Nat.le_refl _
  cases he : s.entryOf n with
  | some e =>
    have hlisted : ((s.levelListed n e new).pt m).confirmCounter ≤ (s.pt m).confirmCounter :=
      rewrite (s.modEntry n fun e => e.changed new) rfl rfl
    rw [State.levelChange_listed he]
    split
    · rwa [State.removeEntry_counter]
    · exact hlisted
  | none =>
    cases hmark : (s.pt n).unlisted with
    | true =>
      by_cases hnew : new = .normal
      · subst hnew
        cases hcls : (s.pt n).active.policy.cls with
        | notify => rw [State.levelChange_marked_notify he hmark hcls]; exact rewrite s rfl rfl
        | latch => rw [State.levelChange_marked_latch he hmark hcls]; exact rewrite s rfl rfl
      · rw [State.levelChange_marked_raised he hmark hnew]; exact rewrite s rfl rfl
    | false =>
      by_cases hnew : new = .normal
      · subst hnew
        rw [State.levelChange_unlisted_normal he hmark]; exact rewrite s rfl rfl
      · rcases Nat.lt_or_ge s.cond.list.length Config.conditionCapacity with hroom | hfull
        · rw [State.levelChange_unlisted_entered he hmark hnew hroom]
          exact rewrite (s.createEntry n new new) rfl rfl
        · rw [State.levelChange_unlisted_full he hmark hnew hfull]; exact rewrite s rfl rfl

theorem State.evaluate_counter (s : State) (n m : PointNo) (ind : Level) :
    ((s.evaluate n ind).pt m).confirmCounter ≤ (s.pt m).confirmCounter
      ∨ ((s.evaluate n ind).pt m).confirmCounter ≤ (s.pt m).active.policy.confirm := by
  unfold State.evaluate
  simp only
  split
  · exact .inl (s.levelChange_counter n m ind)
  · rename_i hwait
    rw [State.modPt_pt]
    split
    · subst_vars
      exact .inr (Nat.le_of_lt (Nat.lt_of_not_le hwait))
    · exact .inl (Nat.le_refl _)

variable {c : Instr}

theorem Acts.removeEntry (s : State) (n : PointNo) : Acts c s (s.removeEntry n) :=
  (Act.conditions (s.conditionMoves_removeEntry n) fun m => .inl (s.removeEntry_counter n m).le).acts

theorem Acts.ackEntry (s : State) (e : CondEntry) : Acts c s (s.ackEntry e) := by
  have hflag : Acts c s (s.modEntry e.point CondEntry.acked) :=
    (Act.conditions (.modCond ..) fun _ => .inl (Nat.le_refl _)).acts
  rw [State.ackEntry_eq]
  split
  · exact hflag.trans (.removeEntry ..)
  · exact hflag

theorem graded_state (code : BitVec 16) (range : RangeFlag) (x : Point) : (graded code range x).state = x.state := by
  cases range <;> rfl

theorem Acts.processResult (hc : measures c = true) {n : PointNo} (hlive : (s.pt n).state = .live)
    (code : BitVec 16) (range : RangeFlag) : Acts c s (s.processResult n code range) := by
  have hgraded : Acts c s (s.modPt n (graded code range)) := (Act.record (.graded code range hc hlive)).acts
  generalize hu : s.modPt n (graded code range) = u at hgraded
  have hstate : (u.pt n).state = .live := by rw [← hu, State.modPt_pt_self, graded_state, hlive]
  have hmoves := u.conditionMoves_evaluate n (indicatedBy code range (s.pt n))
  have hevaluated := hgraded.tail (.conditions hmoves fun m => u.evaluate_counter n m _)
  unfold State.processResult
  rw [hu]
  simp only
  split
  · refine hevaluated.tail (.marked (.inl ?_))
    rw [hmoves.record n]
    exact hstate ▸ rfl
  · exact hevaluated

end

theorem State.evaluate_modScan (s : State) (f : Scan → Scan) (n : PointNo) (ind : Level) :
    (s.modScan f).evaluate n ind = (s.evaluate n ind).modScan f := by
  unfold State.evaluate
  simp only [State.modScan_pt, State.levelChange_modScan, apply_ite (State.modScan · f)]
  rfl

/-- Processing a result neither reads nor writes the scan engine. -/
theorem State.processResult_modScan (s : State) (f : Scan → Scan) (n : PointNo) (code : BitVec 16)
    (range : RangeFlag) : (s.modScan f).processResult n code range = (s.processResult n code range).modScan f := by
  have hgraded : (s.modScan f).modPt n (graded code range) = (s.modPt n (graded code range)).modScan f := rfl
  unfold State.processResult
  simp only [State.modScan_pt, hgraded, State.evaluate_modScan]
  split <;> rfl

/-! ### Events as acts (R76, R89 to R98, R189, R190, R192) -/

theorem mem_resolveInFlight {n m : PointNo} {out : EntryOutcome} (hout : out.Closed) {es : List Entry}
    (h : (⟨m, .inFlight⟩ : Entry) ∈ resolveInFlight n out es) : m ≠ n ∧ (⟨m, .inFlight⟩ : Entry) ∈ es := by
  obtain ⟨e, he, heq⟩ := List.mem_map.1 h
  split at heq
  · cases heq
    exact absurd rfl hout.2
  · rename_i hf
    subst heq
    exact ⟨fun hn => hf ⟨hn, rfl⟩, he⟩

/-- After an ending is handed over, the entry is IN_FLIGHT no longer (R67). -/
theorem State.handOver_notInFlight (s : State) (o : Origin) (n : PointNo) {out : EntryOutcome} (hout : out.Closed) :
    (s.handOver o n out).NotInFlight o n := by
  unfold State.NotInFlight
  rw [State.handOver, State.modScan_scan, Scan.setEntries_entries, if_pos rfl]
  exact fun h => (mem_resolveInFlight hout h).1 rfl

section

variable {c : Instr} {s : State} {i : PortNo} {r : ConvRecord} {left : Nat}

/-- The end of a conversion in BUSY, with its entry resolved (R90). -/
theorem Acts.endTaken (hp : (s.port i).phase = .busy r left) {out : EntryOutcome} (hout : out.Closed) :
    Acts c s (((s.modPort i fun x => { x with phase := .idle, timeoutCount := 0 }).endRecord r.point).handOver
      r.origin r.point out) :=
  (Acts.handOver s r.origin r.point hout).tail
    (.ended (s := s.handOver r.origin r.point out) (.taken hp) fun _ _ => s.handOver_notInFlight _ _ hout)

theorem Acts.takeResult (hc : measures c = true) (hp : (s.port i).phase = .busy r left) (code : BitVec 16)
    (range : RangeFlag) : Acts c s (s.takeResult i r code range) := by
  unfold State.takeResult
  simp only
  split
  · rename_i h
    have hended := Acts.endTaken (c := c) hp (out := .done) (by decide)
    refine (hended.trans ?_).settled
    generalize hu : (s.modPort i fun x => { x with phase := .idle, timeoutCount := 0 }).endRecord r.point = u
    have hlive : (u.pt r.point).state = .live := by
      rw [← hu, State.endRecord, State.modPt_pt_self]
      simp [h.2]
    have hcommute : (u.processResult r.point code range).handOver r.origin r.point .done
        = (u.handOver r.origin r.point .done).processResult r.point code range :=
      (u.processResult_modScan ..).symm
    rw [hcommute]
    exact Acts.processResult (s := u.handOver r.origin r.point .done) hc hlive code range
  · exact (Acts.endTaken hp (by decide)).settled

theorem Acts.takeTimeout (hp : (s.port i).phase = .busy r 0) : Acts c s (s.takeTimeout i r) := by
  have htimed : Acts c s ((s.modPort i fun x => x.timedOut r).handOver r.origin r.point .faulted) :=
    (Acts.handOver s r.origin r.point (out := .faulted) (by decide)).tail
      (.port (s := s.handOver r.origin r.point .faulted) (.timedOut hp (s.handOver_notInFlight _ _ (by decide))))
  unfold State.takeTimeout
  simp only
  split
  · rename_i h
    have hfault := htimed.trans (.faultPoint (n := r.point) h.2)
    exact hfault.settled
  · exact htimed.settled

theorem Acts.drainEnded (s : State) : Acts c s s.drainEnded := by
  unfold State.drainEnded
  split
  · rename_i h
    exact (Act.quiet ((Table.any_eq_false ..).1 h.2)).acts
  · exact .refl

theorem Acts.takeRelease (hp : (s.port i).phase = .cancelling r left) : Acts c s (s.takeRelease i r) :=
  ((Act.ended (.released hp) fun _ hb => nomatch hp.symm.trans hb).acts.settled).trans (.drainEnded _)

theorem Acts.takeCancelExpiry (hp : (s.port i).phase = .cancelling r left) : Acts c s (s.takeCancelExpiry i r) :=
  ((Act.ended (.expired hp) fun _ hb => nomatch hp.symm.trans hb).acts.settled).trans (.drainEnded _)

theorem Acts.enterActive (s : State) : Acts c s s.enterActive :=
  (Act.run (r := ⟨.active, some Config.wakeGuardTicks⟩) (fun h => nomatch h)
    fun _ hk => .inl (Option.some.inj hk).symm).acts

theorem Acts.probeEnded (s : State) : Acts c s s.probeEnded := by
  unfold State.probeEnded
  split
  · exact .enterActive s
  · exact .refl

theorem Acts.endProbe (hp : (s.port i).phase = .probing left) : Acts c s (s.endProbe i) :=
  ((Act.port (.absent hp)).acts.trans (.probeEnded _)).settled

theorem Acts.stray (s : State) (i : PortNo) : Acts c s (s.modPort i SamplePort.stray) :=
  (Act.port (.strays (Nat.min_le_left ..))).acts

theorem Acts.receive (i : PortNo) (m : LinkRx)
    (hc : ∀ seq code range, m = .result seq code range → measures c = true) : Acts c s (s.receive i m) := by
  unfold State.receive
  split
  · rename_i seq code range r _ hp
    split
    · exact .takeResult (hc _ _ _ rfl) hp code range
    · exact .stray s i
  · rename_i hp
    split
    · exact .takeRelease hp
    · exact .stray s i
  · rename_i hp
    split
    · exact .takeRelease hp
    · exact .stray s i
  · rename_i cls _ hp
    exact ((Act.port (.answered cls hp)).acts.trans (.probeEnded _)).settled
  · exact .stray s i

theorem Acts.takeTick (hdue : s.scan.periodTimer = some 0) : Acts c s s.takeTick := by
  have hinterval : Acts c s (s.modScan Scan.nextInterval) := .modScan (.nextInterval hdue)
  unfold State.takeTick
  simp only
  split
  · rename_i hgap
    exact (hinterval.trans (.modScan (.startPass (by simp [Scan.nextInterval, hgap])))).settled
  · rename_i hpass
    exact (hinterval.trans (.modScan (.late (s := s.modScan Scan.nextInterval) hpass))).trans (.modAttn ..)
  · exact hinterval

theorem Acts.expireHold (s : State) (h : HoldRecord) : Acts c s (s.expireHold h) :=
  (Act.holds (.filtered fun k => k.point ≠ h.point)).acts.trans (.outside rfl)

theorem Acts.endGuard (s : State) : Acts c s s.endGuard :=
  (Act.run (r := { s.run with wakeGuard := none }) id fun _ h => nomatch h).acts

theorem Acts.enterQuiet (s : State) : Acts c s s.enterQuiet := by
  obtain ⟨hidle, hrun, -⟩ := s.halt_scan
  have hall : Acts c s s.withdrawAll := (Acts.halt s).tail (.cancelAll hidle hrun)
  have hport (i : PortNo) : s.withdrawAll.port i = (s.halt.port i).cancelRequest := Table.get_map ..
  unfold State.enterQuiet
  split
  · exact hall.tail (.run (fun h => nomatch h) fun _ hk => .inr hk)
  · rename_i hnone
    refine hall.tail (.quiet fun i => ?_)
    have hfree := (Table.any_eq_false ..).1 (Bool.eq_false_iff.2 hnone) i
    have hbusy := (s.halt.port i).cancelRequest_not_busy
    rw [← hport] at hbusy
    change (s.withdrawAll.port i).phase.isCancelling = false at hfree
    cases hp : (s.withdrawAll.port i).phase with
    | busy r k => exact absurd hp (hbusy r k)
    | cancelling r k => rw [hp] at hfree; cases hfree
    | offline | probing | idle | faulted => rfl

theorem Acts.exitQuiet (hq : s.run.mode = .quiet) : Acts c s s.exitQuiet := by
  unfold State.exitQuiet
  split
  · exact .enterActive s
  · exact (Act.waking hq).acts

theorem Acts.stopScan (s : State) : Acts c s s.stopScan := by
  unfold State.stopScan
  split
  · exact .modScan (.requestStop ‹_›)
  · exact (Acts.leaveGap ‹_›).settled
  · exact .refl

end

/-! ### Commands as acts -/

section

variable {c : Instr} {k : Cmd} {p : CmdPort} {ps : List Byte} {s : State}

/-- A command comes to the acts of its own rule, which runs only where the mode admits it, and to its answer. -/
theorem Acts.runCommand {own : State → Answer × State} {t : State} (ht : runCommand k p ps own s = .next t)
    (h : refusalOfMode (admissionOf k) s.run.mode = none → Acts c s (own s).2) : Acts c s t := by
  have hrespond (r : Answer × State) (hr : Acts c s r.2) : Acts c s (respond p r) := hr.trans (.outside rfl)
  rw [runCommand_eq] at ht
  cases ht
  split
  · refine hrespond _ ?_
    unfold checked
    split
    · exact .refl
    · rename_i hm
      split
      · exact h hm
      · exact .refl
  · exact .refl

theorem Acts.accept {data : List Byte} {t : State} (h : Acts c s t) : Acts c s (accept data t).2 := h

theorem Acts.withPoint {i : Nat} {rule : PointNo → State → Answer × State}
    (h : ∀ n, s.resolve (selectorAt ps i) = .ok n → Acts c s (rule n s).2) : Acts c s (withPoint ps i rule s).2 := by
  unfold Machine.withPoint
  split
  · exact .refl
  · exact h _ ‹_›

theorem Acts.unlessHeld {n : PointNo} {rule : State → Answer × State} (h : Acts c s (rule s).2) :
    Acts c s (unlessHeld p n rule s).2 :=
  unlessHeld_keeps (P := Acts c s) .refl h

/-! Commands that read. -/

theorem Acts.readProfileRule : Acts c s (readProfileRule ps s).2 :=
  .withPoint fun n _ => by split <;> exact .refl

theorem Acts.readValueRule : Acts c s (readValueRule ps s).2 := .withPoint fun _ _ => .refl

theorem Acts.readChangedRule : Acts c s (readChangedRule p ps s).2 := by
  unfold Machine.readChangedRule
  simp only
  split
  · exact .refl
  · refine (Act.changed fun q n hn => ?_).acts
    rw [Both.get_set] at hn
    split at hn
    · rename_i e
      subst e
      rw [ChangeSet.afterRead_get, Bool.and_eq_true] at hn
      exact hn.2
    · exact hn

/-! The table group (R12 to R19, R36 to R46). -/

theorem Acts.defineRule (hc : c = .define p ps) : Acts c s (defineRule ps s).2 := by
  unfold Machine.defineRule
  simp only
  split
  · exact .refl
  split
  · exact .refl
  split
  · exact .refl
  · rename_i ht hnew _ n hn
    have hfree : (s.pt n).state = .free := beq_iff_eq.1 ((Table.first_eq_some ..).1 hn).1
    exact (Act.defined hc ht (by simpa using hnew) hfree).acts

theorem State.rerouteAs_modPt (s : State) (n : PointNo) {x : Point} {f : Point → Point}
    (hf : (f x).inFlight = x.inFlight) : (s.rerouteAs n x).modPt n f = s.rerouteAs n (f x) := by
  unfold State.rerouteAs
  generalize (if (s.pt n).quality = .unscanned then s else s.mark n) = u
  have hwrite : (u.setPt n x).modPt n f = u.setPt n (f x) := by
    rw [State.modPt, State.setPt_pt_self, State.setPt_setPt]
  unfold State.supersede
  simp only [State.setPt_pt_self, hf]
  cases x.inFlight with
  | none => exact hwrite
  | some i => exact congrArg (fun v => v.modPort i SamplePort.supersedeRecord) hwrite

theorem Acts.acceptEdit (hc : c = .edit p ps) {n : PointNo} {g : Group} (hn : s.Named n)
    (hg : groupOf (byteAt ps 7) (ps.drop 8) = some g) (ho : g.inOrder = true) : Acts c s (s.acceptEdit n g).2 := by
  cases he : s.editIsStaged n with
  | true =>
    obtain ⟨hdraft, hbusy⟩ := State.editIsStaged_eq_true.1 he
    rw [State.acceptEdit_staged he]
    exact (Act.record (.staged hc hg ho hn hdraft hbusy)).acts
  | false =>
    rw [State.acceptEdit_active he]
    refine Acts.settled ?_
    rw [State.writeActive_eq_ite]
    generalize hx : (s.pt n).withActive ((s.pt n).active.write g) = x
    have hbump : Acts c s (s.setPt n { x with revision := (s.pt n).revision + 1#16 }) :=
      hx ▸ (Act.record (.edited hc hg ho)).acts
    have hrevision : x.revision = (s.pt n).revision := by rw [← hx]; rfl
    split
    · rw [State.bumpRevision, State.modPt, State.setPt_pt_self, State.setPt_setPt, hrevision]
      exact hbump
    · rw [State.bumpRevision, State.rerouteAs_modPt s n rfl, hrevision]
      exact .rerouteAs (fun u hu => by rw [← hx, ← hu]; exact .edited hc hg ho)
        fun hq => .inr (.inr ⟨⟨p, ps, hc⟩, hn, hq⟩)

theorem Acts.editRule (hc : c = .edit p ps) : Acts c s (editRule p ps s).2 :=
  .withPoint fun n hn => .unlessHeld <| by
    split
    · exact .refl
    split
    · exact .refl
    split
    · exact .acceptEdit hc ⟨_, hn⟩ ‹_› ‹_›
    · exact .refl

theorem Acts.lifecycleRule {before : PointState} {change : Point → Point}
    (h : ∀ n, (s.pt n).state = before →
      s.PointAct c n { change (s.pt n) with revision := (s.pt n).revision + 1#16 })
    (hrev : ∀ x, (change x).revision = x.revision) : Acts c s (lifecycleRule p ps before change s).2 :=
  .withPoint fun n _ => .unlessHeld <| by
    split
    · rename_i hs
      refine Acts.settled ?_
      have hrecord := (Act.record (h n hs)).acts
      rw [State.bumpRevision, State.modPt_modPt, State.modPt, hrev]
      exact hrecord
    · exact .refl

theorem State.refill_setHolds (s : State) (hs : List HoldRecord) :
    (s.setHolds hs).refill = s.refill.setHolds hs := by
  unfold State.refill
  simp only [State.setHolds_points]
  split <;> rfl

theorem State.refill_unmark (s : State) (n : PointNo) : (s.unmark n).refill = s.refill.unmark n := by
  unfold State.refill
  simp only [State.unmark_points]
  split <;> rfl

/-- The removal of an entry at a retirement neither reads nor writes holds and change sets. -/
theorem State.retireEntry_unmark (s : State) (hs : List HoldRecord) (n : PointNo) :
    ((s.setHolds hs).unmark n).retireEntry n = ((s.retireEntry n).setHolds hs).unmark n := by
  have hentry : ((s.setHolds hs).unmark n).entryOf n = s.entryOf n := rfl
  unfold State.retireEntry
  rw [hentry]
  split
  · have hdrop : ((s.setHolds hs).unmark n).dropEntry n = ((s.dropEntry n).setHolds hs).unmark n := rfl
    rw [hdrop, State.refill_unmark, State.refill_setHolds]
  · rfl

theorem State.retirePoint_eq (s : State) (n : PointNo) :
    s.retirePoint n =
      ((((s.retired n).retireEntry n).forgetExpired .host n).forgetExpired .service n).settle := by
  unfold State.retired
  simp only [State.retireEntry_unmark]
  rfl

theorem Acts.retireEntry (s : State) (n : PointNo) : Acts c s (s.retireEntry n) := by
  unfold State.retireEntry
  split
  · refine (Act.conditions ((State.ConditionMoves.modCond ..).trans (State.conditionMoves_refill _)) fun m => ?_).acts
    exact .inl (State.refill_counter (s.dropEntry n) m).le
  · exact .refl

theorem Acts.forgetExpired (s : State) (p : CmdPort) (n : PointNo) : Acts c s (s.forgetExpired p n) := .outside rfl

theorem Acts.retireRule (hc : c = .retire p ps) : Acts c s (retireRule p ps s).2 :=
  .withPoint fun n hn => .unlessHeld <| by
    refine .accept ?_
    rw [State.retirePoint_eq]
    have hretired : Acts c s ((s.retired n).retireEntry n) := (Act.retired hc ⟨_, hn⟩).acts.trans (.retireEntry ..)
    exact ((hretired.trans (.forgetExpired ..)).trans (.forgetExpired ..)).settled

/-! The access group (R147, R150). -/

theorem numAt_le (ps : List Byte) (i : Nat) : numAt ps i ≤ 255 := by
  have := (byteAt ps i).isLt
  unfold numAt
  omega

theorem numAt16_le (ps : List Byte) (i : Nat) : numAt16 ps i ≤ 65535 := by
  have := (wordAt16 ps i).isLt
  unfold numAt16
  omega

theorem Acts.holdRule (hc : c = .hold p ps) : Acts c s (holdRule p ps s).2 :=
  .withPoint fun n hn => by
    simp only
    split
    · exact .refl
    rename_i h0
    have hlow : 1 ≤ numAt ps 5 := Nat.pos_of_ne_zero h0
    refine .unlessHeld ?_
    split
    · exact (Act.holds (.renewed n hlow (numAt_le ps 5))).acts.trans (.forgetExpired ..)
    rename_i hnone
    split
    · exact .refl
    · rename_i hroom
      have hnone : s.holdOn n = none := by simpa using hnone
      exact (Act.holds (.created hc hlow (numAt_le ps 5) ⟨_, hn⟩ hnone (Nat.lt_of_not_le hroom))).acts.trans
        (.forgetExpired ..)

theorem Acts.releaseRule : Acts c s (releaseRule p ps s).2 :=
  .withPoint fun n _ => by
    split
    · exact (Act.holds (.filtered _)).acts
    split
    · exact .forgetExpired ..
    · exact .refl

/-! The list group (R58 to R60). -/

theorem Acts.rlistInsertRule : Acts c s (rlistInsertRule ps s).2 :=
  .withPoint fun n _ => by
    simp only
    split
    · exact .refl
    split
    · exact .refl
    split
    · exact .refl
    · exact .accept (.modScan (.insert _ n))

theorem Acts.rlistRemoveRule : Acts c s (rlistRemoveRule ps s).2 :=
  .withPoint fun n _ => by
    split
    · exact .accept (.modScan (.remove n))
    · exact .refl

theorem Acts.plistSetRule : Acts c s (plistSetRule ps s).2 := by
  unfold Machine.plistSetRule
  split
  · exact .refl
  split
  · exact .refl
  rename_i hrun
  split
  · exact .refl
  split
  · exact .accept (.modScan (.setPrio _ (by simpa using hrun)))
  · exact .refl

/-! The scan group (R63, R72 to R80). -/

theorem Acts.scanStartRule : Acts c s (scanStartRule ps s).2 := by
  unfold Machine.scanStartRule
  split
  · exact .refl
  split
  · exact (Acts.modScan (.begin _ ‹_›)).settled
  · exact .refl

theorem Acts.skipPassRule : Acts c s (skipPassRule s).2 := by
  unfold Machine.skipPassRule
  split
  · exact (Act.withdrawn .routine).acts.settled
  · exact .refl

theorem Acts.abortPointRule : Acts c s (abortPointRule ps s).2 :=
  .withPoint fun n _ => by
    split
    · exact .refl
    · exact (Act.aborted ‹_›).acts.settled

theorem Acts.scanConfigRule : Acts c s (scanConfigRule ps s).2 := by
  unfold Machine.scanConfigRule
  split
  · exact .refl
  split
  · exact .refl
  · exact .accept (.modScan (.config _ (Nat.pos_of_ne_zero ‹_›) (numAt16_le ps 0)))

/-! The condition group (R135 to R137). -/

theorem Acts.ackRule : Acts c s (ackRule ps s).2 :=
  .withPoint fun n _ => by
    split
    · exact .refl
    · exact .accept (.ackEntry s _)

theorem Acts.ackUptoRule : Acts c s (ackUptoRule ps s).2 := by
  unfold Machine.ackUptoRule
  split
  · exact .refl
  · exact .accept (.foldl Acts.ackEntry _ s)

theorem Acts.condClearRule : Acts c s (condClearRule ps s).2 :=
  .withPoint fun n _ => by
    split
    · exact .refl
    split
    · exact .accept (.removeEntry s n)
    · exact .refl

/-! The port group (R100, R101, R103). -/

theorem Acts.portConfigRule : Acts c s (portConfigRule ps s).2 := by
  unfold Machine.portConfigRule
  split
  · split
    · exact .refl
    rename_i hlow
    split
    · exact .refl
    · rename_i hfree
      refine (Act.port (.configured (Nat.pos_of_ne_zero hlow) (numAt_le ps 2) fun hoff => ?_)).acts.settled
      simpa [hoff] using hfree
  · exact .refl

theorem Acts.portRestoreRule (hm : s.run.mode = .active) : Acts c s (portRestoreRule ps s).2 := by
  unfold Machine.portRestoreRule
  split
  · exact .refl
  split
  · rename_i h
    simp only [SamplePort.restorable, Bool.and_eq_true, Bool.or_eq_true, beq_iff_eq] at h
    exact (Act.port (.restored hm h.2)).acts.settled
  · exact .refl

theorem Acts.portStatusRule : Acts c s (portStatusRule ps s).2 := by
  unfold Machine.portStatusRule
  split
  · refine .accept ?_
    split
    · exact (Act.port (.strays (Nat.zero_le _))).acts
    · exact .refl
  · exact .refl

/-! The device group (R178, R179, R188, R191). -/

theorem Acts.clearFlagsRule : Acts c s (clearFlagsRule ps s).2 := by
  unfold Machine.clearFlagsRule
  split
  · exact .refl
  · exact .accept (.modAttn ..)

theorem Acts.attnMaskRule : Acts c s (attnMaskRule ps s).2 := by
  unfold Machine.attnMaskRule
  split
  · exact .refl
  · exact .accept (.modAttn ..)

theorem Acts.enterQuietRule : Acts c s (enterQuietRule s).2 := by
  unfold Machine.enterQuietRule
  split
  · exact .refl
  split
  · exact .refl
  · exact .enterQuiet s

theorem Acts.exitQuietRule : Acts c s (exitQuietRule s).2 := by
  unfold Machine.exitQuietRule
  split
  · exact .exitQuiet ‹_›
  · exact .refl

end

/-! ### Every row of the table as acts -/

section

variable {c : Instr} {s t : State}

theorem Acts.onEvent {f : State → State} (ht : onEvent f s = .next t) (h : Acts c s (f s)) : Acts c s t := by
  rw [onEvent_eq] at ht
  cases ht
  split
  · exact .refl
  · exact h

theorem Acts.unknownOpcode {p : CmdPort} {opcode : Byte} {ps : List Byte}
    (ht : execUnknownOpcode p opcode ps s = .next t) : Acts c s t := by
  unfold execUnknownOpcode at ht
  split at ht <;> cases ht
  · exact .outside rfl
  · exact .refl

theorem Acts.spiWrite (s : State) (bytes : List Byte) : Acts c s (s.spiWrite bytes) := by
  unfold State.spiWrite
  split
  · exact .refl
  · split <;> exact .outside rfl

theorem Acts.i2cWrite (s : State) (address : BitVec 7) (bytes : List Byte) :
    Acts c s (s.i2cWrite address bytes) := by
  unfold State.i2cWrite
  simp only
  split <;> exact .outside rfl

theorem Acts.i2cRead (s : State) (address : BitVec 7) : Acts c s (s.i2cRead address) := by
  unfold State.i2cRead
  simp only
  split <;> exact .outside rfl

/-- Every row of the table comes to acts, one after another. -/
theorem exec_acts (ht : exec c s = .next t) : Acts c s t := by
  cases c with
  | define p ps => exact .runCommand ht fun _ => .defineRule rfl
  | find p ps => exact .runCommand ht fun _ => findRule_state ▸ .refl
  | readProfile p ps => exact .runCommand ht fun _ => .readProfileRule
  | readValue p ps => exact .runCommand ht fun _ => .readValueRule
  | edit p ps => exact .runCommand ht fun _ => .editRule rfl
  | activate p ps =>
    exact .runCommand ht fun _ => .lifecycleRule (fun _ => .activated rfl) fun _ => rfl
  | park p ps => exact .runCommand ht fun _ => .lifecycleRule (fun _ => .parked rfl) fun _ => rfl
  | unpark p ps => exact .runCommand ht fun _ => .lifecycleRule (fun _ => .unparked rfl) fun _ => rfl
  | retire p ps => exact .runCommand ht fun _ => .retireRule rfl
  | readChanged p ps => exact .runCommand ht fun _ => .readChangedRule
  | hold p ps => exact .runCommand ht fun _ => .holdRule rfl
  | release p ps => exact .runCommand ht fun _ => .releaseRule
  | rlistInsert p ps => exact .runCommand ht fun _ => .rlistInsertRule
  | rlistRemove p ps => exact .runCommand ht fun _ => .rlistRemoveRule
  | rlistClear p ps => exact .runCommand ht fun _ => .modScan .clear
  | rlistRead p ps => exact .runCommand ht fun _ => rlistReadRule_state ▸ .refl
  | plistSet p ps => exact .runCommand ht fun _ => .plistSetRule
  | plistRead p ps => exact .runCommand ht fun _ => plistReadRule_state ▸ .refl
  | scanStart p ps => exact .runCommand ht fun _ => .scanStartRule
  | scanStop p ps => exact .runCommand ht fun _ => .stopScan s
  | scanHalt p ps => exact .runCommand ht fun _ => .halt s
  | skipPass p ps => exact .runCommand ht fun _ => .skipPassRule
  | runPriority p ps => exact .runCommand ht fun _ => .requestRun s
  | abortPoint p ps => exact .runCommand ht fun _ => .abortPointRule
  | scanConfig p ps => exact .runCommand ht fun _ => .scanConfigRule
  | scanStatus p ps => exact .runCommand ht fun _ => .refl
  | condRead p ps => exact .runCommand ht fun _ => condReadRule_state ▸ .refl
  | ack p ps => exact .runCommand ht fun _ => .ackRule
  | ackUpto p ps => exact .runCommand ht fun _ => .ackUptoRule
  | condClear p ps => exact .runCommand ht fun _ => .condClearRule
  | portConfig p ps => exact .runCommand ht fun _ => .portConfigRule
  | portRestore p ps => exact .runCommand ht fun hm => .portRestoreRule (active_of_admitted hm)
  | portStatus p ps => exact .runCommand ht fun _ => .portStatusRule
  | status p ps => exact .runCommand ht fun _ => .refl
  | clearFlags p ps => exact .runCommand ht fun _ => .clearFlagsRule
  | attnMask p ps => exact .runCommand ht fun _ => .attnMaskRule
  | identify p ps => exact .runCommand ht fun _ => .refl
  | enterQuiet p ps => exact .runCommand ht fun _ => .enterQuietRule
  | exitQuiet p ps => exact .runCommand ht fun _ => .exitQuietRule
  | softReset p ps => exact .runCommand ht fun _ => (Act.softReset rfl).acts
  | unknownOpcode p opcode ps => exact .unknownOpcode ht
  | commandFrame bus bytes =>
    unfold exec execCommandFrame at ht
    refine .onEvent ht ?_
    cases bus with
    | spi => exact .spiWrite s bytes
    | i2c address => exact .i2cWrite s address bytes
  | fetch bus =>
    unfold exec execFetch at ht
    refine .onEvent ht ?_
    cases bus with
    | spi => exact .outside rfl
    | i2c address => exact .i2cRead s address
  | fetchEnd p delivered =>
    unfold exec execFetchEnd at ht
    exact .onEvent ht (.outside rfl)
  | result i seq code range =>
    unfold exec execResult at ht
    exact .onEvent ht (.receive i _ fun _ _ _ _ => rfl)
  | cancelAck i seq =>
    unfold exec execCancelAck at ht
    exact .onEvent ht (.receive i _ nofun)
  | present i cls =>
    unfold exec execPresent at ht
    exact .onEvent ht (.receive i _ nofun)
  | damagedMessage i burst =>
    unfold exec execDamagedMessage at ht
    exact .onEvent ht (.receive i _ fun _ _ _ _ => rfl)
  | timeout i =>
    unfold exec execTimeout at ht
    refine .onEvent ht ?_
    split
    · split
      · subst_vars; exact .takeTimeout ‹_›
      · exact .refl
    all_goals exact .refl
  | cancelTimerExpiry i =>
    unfold exec execCancelTimerExpiry at ht
    refine .onEvent ht ?_
    split
    · split
      · exact .takeCancelExpiry ‹_›
      · exact .refl
    all_goals exact .refl
  | probeTimerExpiry i =>
    unfold exec execProbeTimerExpiry at ht
    refine .onEvent ht ?_
    split
    · split
      · exact .endProbe ‹_›
      · exact .refl
    all_goals exact .refl
  | periodTick =>
    unfold exec execPeriodTick at ht
    refine .onEvent ht ?_
    split
    · exact .takeTick ‹_›
    · exact .refl
  | holdExpiry n =>
    unfold exec execHoldExpiry at ht
    refine .onEvent ht ?_
    split
    · split
      · exact .expireHold ..
      · exact .refl
    · exact .refl
  | wakeGuardExpiry =>
    unfold exec execWakeGuardExpiry at ht
    refine .onEvent ht ?_
    split
    · exact .endGuard s
    · exact .refl
  | ptrig =>
    unfold exec execPtrig at ht
    refine .onEvent ht ?_
    split
    · exact .requestRun s
    · exact .refl
  | powerOn high =>
    cases ht
    exact (Act.initial (.inl ⟨_, rfl⟩)).acts
  | resetN edge =>
    cases edge with
    | rise high =>
      cases ht
      exact (Act.initial (.inr ⟨_, rfl⟩)).acts
    | fall =>
      cases ht
      exact (Act.resetFall).acts

end

end Sys2Proof.Machine

/-! SUPPORT. The laws of the scan engine, kept by every act of a step. -/

namespace Sys2Proof.Machine

/-! ### The next step as acts -/

/-- A law that a tick, the queue and every act keep is kept by every step. -/
theorem step_keeps {P : State → Prop} (hidle : ∀ s : State, P s → P s.idle)
    (hqueue : ∀ (s : State) (rest : List Instr), P s → P { s with pending := rest })
    (hact : ∀ {c : Instr} {s t : State}, Act c s t → P s → P t) {s t : State} (hs : P s)
    (ht : step s = .next t) : P t := by
  unfold step at ht
  split at ht
  · cases ht; exact hidle s hs
  · exact (exec_acts ht).keep hact (hqueue s _ hs)

/-! ### What acts leave of the records -/

section

variable {s : State} {c : Instr}

/-- A link of the index is one field of a record. -/
theorem State.setNext_pt_same {β : Type} (g : Point → β) (hg : ∀ x h, g { x with next := h } = g x) (n : PointNo)
    (h : Option PointNo) (m : PointNo) : g ((s.setNext n h).pt m) = g (s.pt m) :=
  State.modPt_pt_same g (hg _ _) m

/-- Unlinking writes links alone (R27). -/
theorem State.unlink_pt_same {β : Type} (g : Point → β) (hg : ∀ x h, g { x with next := h } = g x) (n m : PointNo) :
    g ((s.unlink n).pt m) = g (s.pt m) := by
  unfold State.unlink
  simp only
  rw [State.setNext_pt_same g hg]
  split
  · rfl
  · split
    · exact State.setNext_pt_same g hg ..
    · rfl

theorem State.retired_pt (s : State) (n : PointNo) :
    (s.retired n).pt = ((s.unlink n).modPt n retiredRecord).pt := rfl

/-- What a retirement leaves of its record and of a link, it leaves of every record. -/
theorem State.retired_pt_same {β : Type} (g : Point → β) (hg : ∀ x h, g { x with next := h } = g x)
    {n : PointNo} (hr : g (retiredRecord ((s.unlink n).pt n)) = g ((s.unlink n).pt n)) (m : PointNo) :
    g ((s.retired n).pt m) = g (s.pt m) := by
  rw [State.retired_pt, State.modPt_pt_same g hr, State.unlink_pt_same g hg]

theorem State.unlink_scan (s : State) (n : PointNo) : (s.unlink n).scan = s.scan := by
  unfold State.unlink
  simp only
  split
  · rfl
  · split <;> rfl

theorem State.retired_scan (s : State) (n : PointNo) : (s.retired n).scan = s.scan.without n := by
  show (s.unlink n).scan.without n = _
  rw [State.unlink_scan]

theorem Point.softReset_staged (x : Point) : x.softReset.staged = none := by
  unfold Point.softReset
  simp only
  split <;> rfl

@[simp] theorem State.initial_pt {high a b : Bool} {waiting : List Instr} (n : PointNo) :
    ({ initialState high waiting with inReset := a, poweringUp := b } : State).pt n = Point.initial :=
  Table.get_replicate ..

end

/-! ### The laws of the scan engine (R5, R42, R54, R56, R69, R70) -/

/-- The laws of the scanner and of a run: what every act keeps together. -/
structure State.ScanLaws (s : State) : Prop where
  scanner : s.ScannerLaw
  run : s.RunLaw

/-- What an act leaves where it does not touch the scan engine: the engine, and in IDLE no profile newly staged. -/
structure State.KeepsScan (s t : State) : Prop where
  scan : t.scan = s.scan
  staged : s.scan.scanner = .idle → ∀ n, (s.pt n).staged = none → (t.pt n).staged = none

section

variable {s t : State} {c : Instr} {n : PointNo}

theorem State.KeepsScan.of_pt (hscan : t.scan = s.scan) (hpt : t.pt = s.pt) : s.KeepsScan t :=
  ⟨hscan, fun _ _ h => by rwa [hpt]⟩

theorem State.KeepsScan.of_staged (hscan : t.scan = s.scan) (h : ∀ n, (t.pt n).staged = (s.pt n).staged) :
    s.KeepsScan t := ⟨hscan, fun _ n hn => (h n).trans hn⟩

theorem State.ScanLaws.of_keeps (hs : s.ScanLaws) (h : s.KeepsScan t) : t.ScanLaws := by
  obtain ⟨⟨hidle, hgap⟩, hrun⟩ := hs
  refine ⟨⟨?_, ?_⟩, ?_⟩
  · rw [h.scan]
    intro hi
    obtain ⟨hstop, hlate, hlist, hclosed, hstaged⟩ := hidle hi
    exact ⟨hstop, hlate, hlist, hclosed, fun n => h.staged hi n (hstaged n)⟩
  · rw [h.scan]; exact hgap
  · unfold State.RunLaw; rw [h.scan]; exact hrun

/-- The outcomes of one list are rewritten, and a list without an open entry stays so. -/
theorem State.ScanLaws.setEntries (hs : s.ScanLaws) (o : Origin) {es : List Entry}
    (hclosed : allClosed (s.scan.entries o) → allClosed es) :
    ({ s with scan := s.scan.setEntries o es } : State).ScanLaws := by
  obtain ⟨⟨hidle, hgap⟩, hrun⟩ := hs
  cases o with
  | routine =>
    refine ⟨⟨fun hi => ?_, fun hg => ?_⟩, hrun⟩
    · obtain ⟨hstop, hlate, hlist, hes, hstaged⟩ := hidle hi
      exact ⟨hstop, hlate, hlist, hclosed hes, hstaged⟩
    · obtain ⟨hmode, hstop, hlate, hes⟩ := hgap hg
      exact ⟨hmode, hstop, hlate, hclosed hes⟩
  | priority =>
    exact ⟨⟨hidle, hgap⟩, fun hp => (hrun hp).imp_right hclosed⟩

theorem allClosed_resolveCursor {out : EntryOutcome} (hout : out.Closed) {es : List Entry} (h : allClosed es) :
    allClosed (resolveCursor out es) := by
  induction es with
  | nil => exact h
  | cons e es ih =>
    obtain ⟨he, hes⟩ := List.forall_mem_cons.1 h
    unfold resolveCursor
    split
    · refine List.forall_mem_cons.2 ⟨?_, hes⟩
      simp [Entry.isOpen, hout.1, hout.2]
    · exact List.forall_mem_cons.2 ⟨he, ih hes⟩

theorem allClosed_resolveInFlight {out : EntryOutcome} (hout : out.Closed) {es : List Entry} (h : allClosed es) :
    allClosed (resolveInFlight n out es) := by
  intro e he
  obtain ⟨f, hf, rfl⟩ := List.mem_map.1 he
  split
  · simp [Entry.isOpen, hout.1, hout.2]
  · exact h f hf

theorem allClosed_filter {es : List Entry} (h : allClosed es) (q : Entry → Bool) : allClosed (es.filter q) :=
  fun e he => h e (List.mem_filter.1 he).1

theorem allClosed_setOutcomes_none (es : List Entry) : allClosed (setOutcomes .none es) := by
  simp [allClosed, setOutcomes, Entry.isOpen]

/-- A cursor stands at an open entry (R57). -/
theorem not_allClosed_of_cursorPoint {es : List Entry} (h : cursorPoint es = some n) : ¬allClosed es := by
  intro hc
  obtain ⟨e, he, -⟩ := Option.map_eq_some_iff.1 h
  have hopen := hc e (List.mem_of_find?_eq_some he)
  have hp := List.find?_some he
  simp [Entry.isOpen, hp] at hopen

/-- Each change of the scan engine alone keeps its laws. -/
theorem State.ScanLaws.scanAct (hs : s.ScanLaws) {x : Scan} (h : s.ScanAct x) :
    ({ s with scan := x } : State).ScanLaws := by
  have hwhole := hs
  obtain ⟨⟨hidle, hgap⟩, hrun⟩ := hs
  cases h with
  | resolve o hout => exact hwhole.setEntries o (allClosed_resolveCursor hout)
  | handOver o n hout => exact hwhole.setEntries o (allClosed_resolveInFlight hout)
  | rerun hp => exact ⟨⟨hidle, hgap⟩, nofun⟩
  | startRun hp => exact ⟨⟨hidle, hgap⟩, nofun⟩
  | holdRerun hp => exact ⟨⟨hidle, hgap⟩, fun h => nomatch h.symm.trans hp⟩
  | endRun hclosed => exact ⟨⟨hidle, hgap⟩, fun _ => ⟨rfl, hclosed⟩⟩
  | begin m hi =>
    cases m with
    | oneShot => exact ⟨⟨nofun, nofun⟩, hrun⟩
    | cyclic => exact ⟨⟨nofun, nofun⟩, hrun⟩
  | requestStop hpass =>
    exact ⟨⟨fun h => (nomatch hpass.symm.trans h), fun h => (nomatch hpass.symm.trans h)⟩, hrun⟩
  | nextInterval hdue => exact ⟨⟨hidle, hgap⟩, hrun⟩
  | startPass hbusy =>
    exact ⟨⟨nofun, nofun⟩, hrun⟩
  | late hpass =>
    exact ⟨⟨fun h => (nomatch hpass.symm.trans h), fun h => (nomatch hpass.symm.trans h)⟩, hrun⟩
  | promoteList =>
    unfold Scan.promoteList
    split
    · rename_i ns hns
      refine ⟨⟨fun hi => ?_, fun hg => ?_⟩, hrun⟩
      · obtain ⟨-, -, hlist, -⟩ := hidle hi
        exact nomatch hns.symm.trans hlist
      · obtain ⟨hmode, hstop, hlate, -⟩ := hgap hg
        exact ⟨hmode, hstop, hlate, allClosed_freshEntries ns⟩
    · exact hwhole
  | countPass => exact ⟨⟨hidle, hgap⟩, hrun⟩
  | enterGap hpass hclosed hmode hstop hlate =>
    exact ⟨⟨nofun, fun _ => ⟨hmode, hstop, hlate, hclosed⟩⟩, hrun⟩
  | goIdle hclosed hstaged =>
    have hrest : s.scan.staged = none ∧ allClosed s.scan.active ∧ ∀ n, (s.pt n).staged = none := by
      cases hscanner : s.scan.scanner with
      | idle =>
        obtain ⟨-, -, hlist, hes, hpt⟩ := hidle hscanner
        exact ⟨hlist, hes, hpt⟩
      | pass =>
        obtain ⟨hlist, hpt⟩ := hstaged (by simp [hscanner])
        exact ⟨hlist, hclosed hscanner, hpt⟩
      | gap =>
        obtain ⟨hlist, hpt⟩ := hstaged (by simp [hscanner])
        obtain ⟨-, -, -, hes⟩ := hgap hscanner
        exact ⟨hlist, hes, hpt⟩
    exact ⟨⟨fun _ => ⟨rfl, rfl, hrest⟩, nofun⟩, hrun⟩
  | insert k n =>
    rw [Scan.insertPoint_eq, Scan.withRoutineList]
    split
    · rename_i hi
      obtain ⟨hstop, hlate, hlist, hes, hpt⟩ := hidle hi
      refine ⟨⟨fun _ => ⟨hstop, hlate, hlist, ?_, hpt⟩, fun h => nomatch hi.symm.trans h⟩, hrun⟩
      intro e he
      rcases List.mem_append.1 he with he | he
      · exact hes e (List.mem_of_mem_take he)
      · rcases List.mem_cons.1 he with rfl | he
        · rfl
        · exact hes e (List.mem_of_mem_drop he)
    · rename_i hi
      exact ⟨⟨fun h => absurd h hi, hgap⟩, hrun⟩
  | remove n =>
    rw [Scan.removePoint_eq, Scan.withRoutineList]
    split
    · rename_i hi
      obtain ⟨hstop, hlate, hlist, hes, hpt⟩ := hidle hi
      exact ⟨⟨fun _ => ⟨hstop, hlate, hlist, allClosed_filter hes _, hpt⟩, fun h => nomatch hi.symm.trans h⟩,
        hrun⟩
    · rename_i hi
      exact ⟨⟨fun h => absurd h hi, hgap⟩, hrun⟩
  | clear =>
    rw [Scan.clearList_eq]
    simp only [Scan.withRoutineList]
    split
    · rename_i hi
      obtain ⟨hstop, hlate, hlist, -, hpt⟩ := hidle hi
      exact ⟨⟨fun _ => ⟨hstop, hlate, hlist, nofun, hpt⟩, fun h => nomatch hi.symm.trans h⟩, hrun⟩
    · rename_i hi
      exact ⟨⟨fun h => absurd h hi, hgap⟩, hrun⟩
  | setPrio ns hp =>
    exact ⟨⟨hidle, hgap⟩, fun _ => ⟨(hrun hp).1, allClosed_freshEntries ns⟩⟩
  | config trigger hlow hhigh => exact ⟨⟨hidle, hgap⟩, hrun⟩

/-- Only an EDIT stages a profile, and none in IDLE (R38, R42). -/
theorem State.PointAct.staged_none {x : Point} (h : s.PointAct c n x) (hidle : s.scan.scanner = .idle)
    (hs : (s.pt n).staged = none) : x.staged = none := by
  cases h with
  | graded code range => cases range <;> exact hs
  | faulted | edited | activated | parked | unparked => exact hs
  | aged => exact (Point.aged_staged _).trans hs
  | promoted => exact Point.promoted_staged _
  | staged _ _ _ _ _ hbusy => exact absurd hidle hbusy

theorem State.KeepsScan.setPt {x : Point} (h : s.scan.scanner = .idle → (s.pt n).staged = none → x.staged = none) :
    s.KeepsScan (s.setPt n x) := by
  refine ⟨rfl, fun hi m hm => ?_⟩
  rw [State.setPt_pt]
  split
  · subst_vars; exact h hi hm
  · exact hm

theorem State.withdraw_scanLaws (hs : s.ScanLaws) (o : Origin) : (s.withdraw o).ScanLaws := by
  rw [State.withdraw_frame]
  have hlist := hs.setEntries o (es := cancelOpen (s.scan.entries o)) fun _ => cancelOpen_closed _
  exact hlist.of_keeps (.of_pt rfl rfl)

/-- Every act keeps the laws of the scan engine. -/
theorem State.ScanLaws.act (hs : s.ScanLaws) (h : Act c s t) : t.ScanLaws := by
  cases h with
  | outside | run | holds | changed | marked | port | cancelAll | quiet | waking =>
    exact hs.of_keeps (.of_pt rfl rfl)
  | scan h => exact hs.scanAct h
  | record h => exact hs.of_keeps (.setPt h.staged_none)
  | conditions h =>
    exact hs.of_keeps (.of_staged (by rw [h.frame]) fun n => by rw [h.record n])
  | @dispatched o n hn he =>
    have hlist := hs.setEntries o (es := resolveCursor .inFlight (s.scan.entries o))
      fun hclosed => absurd hclosed (not_allClosed_of_cursorPoint hn)
    refine hlist.of_keeps (.of_staged rfl fun m => ?_)
    exact State.modPt_pt_same (s := s.resolveAtCursor o .inFlight)
      (f := fun x => { x with inFlight := some (s.pt n).active.route.port }) Point.staged rfl m
  | withdrawn o => exact State.withdraw_scanLaws hs o
  | @aborted n i r h =>
    have hlist := hs.setEntries r.origin (es := resolveInFlight n .cancelled (s.scan.entries r.origin))
      (allClosed_resolveInFlight (by decide))
    exact hlist.of_keeps (.of_pt rfl rfl)
  | @ended i r x h hr =>
    exact hs.of_keeps (.of_staged rfl fun m => State.modPt_pt_same (s := s.setPort i x) Point.staged rfl m)
  | @defined p ps n t hc ht hnew hfree =>
    refine hs.of_keeps ⟨rfl, fun _ m hm => ?_⟩
    refine (State.setNext_pt_same (s := s.setPt n _) Point.staged (fun _ _ => rfl) ..).trans ?_
    rw [State.setPt_pt]
    split
    · rfl
    · exact hm
  | @retired p ps n hc hn =>
    obtain ⟨⟨hidle, hgap⟩, hrun⟩ := hs
    have hscan := s.retired_scan n
    refine ⟨⟨?_, ?_⟩, ?_⟩
    · rw [hscan]
      intro hi
      obtain ⟨hstop, hlate, hlist, hes, hpt⟩ := hidle hi
      refine ⟨hstop, hlate, by simp [Scan.without, hlist], allClosed_filter hes _, fun m => ?_⟩
      rw [State.retired_pt, State.modPt_pt]
      split
      · rfl
      · exact (State.unlink_pt_same Point.staged (fun _ _ => rfl) ..).trans (hpt m)
    · rw [hscan]
      intro hg
      obtain ⟨hmode, hstop, hlate, hes⟩ := hgap hg
      exact ⟨hmode, hstop, hlate, allClosed_filter hes _⟩
    · unfold State.RunLaw
      rw [hscan]
      exact fun hp => (hrun hp).imp_right fun hes => allClosed_filter hes _
  | softReset hc =>
    refine ⟨⟨fun _ => ⟨rfl, rfl, rfl, allClosed_setOutcomes_none _, fun n => ?_⟩, nofun⟩,
      fun _ => ⟨rfl, allClosed_setOutcomes_none _⟩⟩
    rw [State.softReset_pt, Point.softReset_staged]
  | initial hc =>
    refine ⟨⟨fun _ => ⟨rfl, rfl, rfl, nofun, fun n => ?_⟩, nofun⟩, fun _ => ⟨rfl, nofun⟩⟩
    rw [State.initial_pt]
    rfl
  | resetFall =>
    obtain ⟨hscanner, hrun⟩ := hs
    exact ⟨hscanner, hrun⟩

theorem State.ScanLaws.idle (hs : s.ScanLaws) : s.idle.ScanLaws := by
  unfold State.idle
  split
  · exact hs
  · exact ⟨hs.scanner, hs.run⟩

/-- The period timer's law depends on three items of the scan engine. -/
theorem State.TimerLaw.of_same (hs : s.TimerLaw) (htimer : t.scan.periodTimer.isSome = s.scan.periodTimer.isSome)
    (hmode : t.scan.scanMode = s.scan.scanMode) (hscanner : t.scan.scanner = s.scan.scanner) : t.TimerLaw := by
  unfold State.TimerLaw
  rw [htimer, hmode, hscanner]
  exact hs

theorem State.TimerLaw.setEntries (hs : s.TimerLaw) (o : Origin) (es : List Entry) :
    ({ s with scan := s.scan.setEntries o es } : State).TimerLaw := by
  cases o <;> exact hs

/-- Each change of the scan engine alone keeps the law of the period timer (R70). -/
theorem State.TimerLaw.scanAct (hs : s.TimerLaw) {x : Scan} (h : s.ScanAct x) :
    ({ s with scan := x } : State).TimerLaw := by
  have ⟨hruns, hcyclic⟩ := hs
  cases h with
  | resolve o hout | handOver o n hout => exact State.TimerLaw.setEntries hs o _
  | rerun | startRun | holdRerun | endRun | requestStop | late | countPass | setPrio | config => exact hs
  | begin m hi =>
    have hstopped : s.scan.periodTimer.isSome ≠ true := fun h => (hruns h).2 hi
    cases m with
    | oneShot => exact ⟨fun h => absurd h hstopped, fun h => nomatch h.1⟩
    | cyclic => exact ⟨fun _ => ⟨rfl, nofun⟩, fun _ => rfl⟩
  | nextInterval hdue => exact ⟨fun _ => hruns (by rw [hdue]; rfl), fun _ => rfl⟩
  | startPass hbusy => exact ⟨fun h => ⟨(hruns h).1, nofun⟩, fun h => hcyclic ⟨h.1, hbusy⟩⟩
  | promoteList =>
    unfold Scan.promoteList
    split <;> exact hs
  | enterGap hpass => exact ⟨fun h => ⟨(hruns h).1, nofun⟩, fun h => hcyclic ⟨h.1, by simp [hpass]⟩⟩
  | goIdle => exact ⟨nofun, fun h => absurd rfl h.2⟩
  | insert k n =>
    rw [Scan.insertPoint_eq, Scan.withRoutineList]
    split <;> exact hs
  | remove n =>
    rw [Scan.removePoint_eq, Scan.withRoutineList]
    split <;> exact hs
  | clear =>
    rw [Scan.clearList_eq]
    simp only [Scan.withRoutineList]
    split <;> exact hs

/-- Every act keeps the law of the period timer. -/
theorem State.TimerLaw.act (hs : s.TimerLaw) (h : Act c s t) : t.TimerLaw := by
  cases h with
  | outside | run | holds | changed | marked | port | cancelAll | quiet | waking | record | ended | defined
  | resetFall => exact hs
  | scan h => exact State.TimerLaw.scanAct hs h
  | conditions h => rw [h.frame]; exact hs
  | dispatched o | aborted => exact State.TimerLaw.setEntries hs _ _
  | withdrawn o =>
    rw [State.withdraw_frame]
    exact State.TimerLaw.setEntries hs o _
  | @retired p ps n =>
    have hscan := s.retired_scan n
    exact State.TimerLaw.of_same hs (by rw [hscan]; rfl) (by rw [hscan]; rfl) (by rw [hscan]; rfl)
  | softReset | initial => exact ⟨nofun, fun h => absurd rfl h.2⟩

/-- A tick takes ticks off the timers and stops none. -/
theorem State.TimerLaw.idle (hs : s.TimerLaw) : s.idle.TimerLaw := by
  unfold State.idle
  split
  · exact hs
  · exact State.TimerLaw.of_same hs Option.isSome_map rfl rfl

end

/-- Settles O55: each act of a step keeps the laws of the scan engine, and so does a tick. -/
theorem everyStepKeepsTheScanLaws : Obligations.EveryStepKeepsTheScanLaws := by
  intro s t hscanner htimer hrun ht
  have hlaws : t.ScanLaws := step_keeps (P := State.ScanLaws) (fun _ => State.ScanLaws.idle)
    (fun _ _ h => h.of_keeps (.of_pt rfl rfl)) (fun h hs => hs.act h) ⟨hscanner, hrun⟩ ht
  have htimer : t.TimerLaw := step_keeps (P := State.TimerLaw) (fun _ => State.TimerLaw.idle) (fun _ _ h => h)
    (fun h hs => State.TimerLaw.act hs h) htimer ht
  exact ⟨hlaws.scanner, htimer, hlaws.run⟩

end Sys2Proof.Machine

/-! SUPPORT. In-flight marks, outstanding records and IN_FLIGHT entries, kept in agreement by every act of a step. -/

namespace Sys2Proof.Machine

section

variable {s t : State} {c : Instr} {n : PointNo} {i : PortNo}

/-! ### Ports in QUIET (R186, R192) -/

/-- In QUIET every port is OFFLINE. -/
def State.QuietLaw (s : State) : Prop := s.run.mode = .quiet → ∀ i, (s.port i).phase = .offline

/-- An act that does not enter QUIET and in QUIET leaves OFFLINE ports OFFLINE. -/
theorem State.QuietLaw.of_offline (hs : s.QuietLaw) (hmode : t.run.mode = .quiet → s.run.mode = .quiet)
    (hport : s.run.mode = .quiet → ∀ i, (s.port i).phase = .offline → (t.port i).phase = .offline) : t.QuietLaw :=
  fun hq i => hport (hmode hq) i (hs (hmode hq) i)

theorem State.QuietLaw.setPort (hs : s.QuietLaw) {x : SamplePort}
    (hx : s.run.mode = .quiet → (s.port i).phase = .offline → x.phase = .offline) : (s.setPort i x).QuietLaw := by
  refine hs.of_offline id fun hq j hj => ?_
  rw [State.setPort_port]
  split
  · subst_vars; exact hx hq hj
  · exact hj

theorem SamplePort.cancelRequest_of_offline {x : SamplePort} (h : x.phase = .offline) : x.cancelRequest = x :=
  SamplePort.cancelRequest_of_not_busy fun _ _ hb => nomatch h.symm.trans hb

theorem SamplePort.orderOffline_of_drained {x : SamplePort} (h : x.phase.draining = false) :
    x.orderOffline = { x with phase := .offline } := by
  obtain ⟨phase⟩ := x
  cases phase with
  | busy | cancelling => cases h
  | offline | probing | idle | faulted => rfl

/-- A PORT_CONFIG in QUIET starts no probe (R100). -/
theorem SamplePort.configured_offline {x : SamplePort} {m : Mode} (hm : m = .quiet) {on : Bool} (timeout : Nat)
    (hx : x.phase = .offline) : (x.configured m on timeout).phase = .offline := by
  subst hm
  cases on with
  | true => simpa [SamplePort.configured] using hx
  | false => simp [SamplePort.configured, SamplePort.orderOffline, hx]

theorem State.PortAct.offline {x : SamplePort} (h : s.PortAct i x) (hm : s.run.mode = .quiet)
    (hx : (s.port i).phase = .offline) : x.phase = .offline := by
  cases h with
  | strays => exact hx
  | configured => exact SamplePort.configured_offline hm _ hx
  | restored hactive => exact nomatch hm.symm.trans hactive
  | answered _ hp | absent hp | timedOut hp => exact nomatch hx.symm.trans hp
  | superseded => simp [SamplePort.supersedeRecord, hx, Phase.mapRecord]

theorem State.abortable_spec {r : ConvRecord} (h : s.abortable n = some (i, r)) :
    (s.pt n).inFlight = some i ∧ (∃ k, (s.port i).phase = .busy r k)
      ∧ (⟨n, .inFlight⟩ : Entry) ∈ s.scan.entries r.origin := by
  unfold State.abortable at h
  split at h
  · cases h
  · rename_i j hj
    split at h
    · rename_i r' k hp
      split at h
      · rename_i hany
        cases h
        obtain ⟨⟨m, out⟩, he, hm⟩ := List.any_eq_true.1 hany
        obtain ⟨rfl, rfl⟩ := of_decide_eq_true hm
        exact ⟨hj, ⟨k, hp⟩, he⟩
      · cases h
    all_goals cases h

theorem State.unlink_port (s : State) (n : PointNo) : (s.unlink n).port = s.port := by
  unfold State.unlink
  simp only
  split
  · rfl
  · split <;> rfl

theorem State.unlink_run (s : State) (n : PointNo) : (s.unlink n).run = s.run := by
  unfold State.unlink
  simp only
  split
  · rfl
  · split <;> rfl

theorem State.retired_port (s : State) (n : PointNo) : (s.retired n).port = s.port := s.unlink_port n

theorem State.retired_run (s : State) (n : PointNo) : (s.retired n).run = s.run := s.unlink_run n

theorem State.QuietLaw.act (hs : s.QuietLaw) (h : Act c s t) : t.QuietLaw := by
  cases h with
  | outside | holds | changed | scan | record | marked | defined | resetFall => exact hs
  | run hmode => exact hs.of_offline hmode fun _ _ => id
  | conditions h => rw [h.frame]; exact hs
  | port h => exact hs.setPort h.offline
  | @dispatched o n hn he =>
    have hidle := State.idle_of_examine_dispatched he
    exact hs.setPort (s := (s.resolveAtCursor o .inFlight).modPt n _) fun _ hoff => nomatch hidle.symm.trans hoff
  | withdrawn o =>
    refine hs.of_offline (by rw [State.withdraw_frame]; exact id) fun _ j hj => ?_
    rw [State.withdraw_port, SamplePort.cancelRequest_of_offline hj, ite_self]
    exact hj
  | @aborted n i r h =>
    refine hs.setPort (s := s.handOver r.origin n .cancelled) fun _ (hoff : (s.port i).phase = .offline) => ?_
    exact (congrArg SamplePort.phase (SamplePort.cancelRequest_of_offline hoff)).trans hoff
  | @ended i r x h hr =>
    refine hs.setPort fun _ hoff => ?_
    cases h with
    | taken hp | released hp | expired hp => exact nomatch hoff.symm.trans hp
  | cancelAll =>
    refine hs.of_offline id fun _ j hj => ?_
    show ((s.ports.map SamplePort.cancelRequest).get j).phase = .offline
    rw [Table.get_map]
    exact (SamplePort.cancelRequest_of_offline hj).symm ▸ hj
  | quiet hfree =>
    intro _ j
    show ((s.ports.map SamplePort.orderOffline).get j).phase = .offline
    rw [Table.get_map]
    exact congrArg SamplePort.phase (SamplePort.orderOffline_of_drained (hfree j))
  | waking => exact nofun
  | @retired p ps n =>
    exact hs.of_offline (by rw [State.retired_run]; exact id) fun _ j hj => by rwa [State.retired_port]
  | softReset =>
    intro _ j
    rw [State.softReset_port]
    rfl
  | initial =>
    intro _ j
    show ((State.reset).port j).phase = .offline
    rw [State.reset_port]
    rfl

/-! ### Marks and records (R7, R9, R17, R19, R87) -/

/-- What an act leaves of marks, records and states where it neither opens nor ends a conversion. -/
structure State.KeepsMarks (s t : State) : Prop where
  inFlight : ∀ n, (t.pt n).inFlight = (s.pt n).inFlight
  record : ∀ i, t.recordPoint i = s.recordPoint i
  unmarked : ∀ n, (t.pt n).state = .free ∨ (t.pt n).state = .draft →
    (s.pt n).state = .free ∨ (s.pt n).state = .draft
  retiring : ∀ n, (t.pt n).state = .retiring → (s.pt n).state = .retiring

theorem State.KeepsMarks.of_records (hin : ∀ n, (t.pt n).inFlight = (s.pt n).inFlight)
    (hst : ∀ n, (t.pt n).state = (s.pt n).state) (hport : ∀ i, t.recordPoint i = s.recordPoint i) :
    s.KeepsMarks t :=
  ⟨hin, hport, fun n h => by rwa [hst] at h, fun n h => by rwa [hst] at h⟩

theorem State.KeepsMarks.of_ports (hpt : t.pt = s.pt) (hport : ∀ i, t.recordPoint i = s.recordPoint i) :
    s.KeepsMarks t := .of_records (fun _ => by rw [hpt]) (fun _ => by rw [hpt]) hport

theorem State.RecordLaw.of_keeps (hs : s.RecordLaw) (h : s.KeepsMarks t) : t.RecordLaw := by
  obtain ⟨hmarks, hunmarked, hretiring⟩ := hs
  refine ⟨fun n i => ?_, fun n hn => ?_, fun n hn => ?_⟩
  · rw [h.inFlight, h.record]; exact hmarks n i
  · rw [h.inFlight]; exact hunmarked n (h.unmarked n hn)
  · rw [h.inFlight]; exact hretiring n (h.retiring n hn)

theorem State.PointAct.inFlight {x : Point} (h : s.PointAct c n x) : x.inFlight = (s.pt n).inFlight := by
  cases h with
  | graded code range => cases range <;> rfl
  | faulted | edited | staged | activated | parked | unparked => rfl
  | aged => exact Point.aged_inFlight _
  | promoted => exact Point.promoted_inFlight _

theorem Point.promoted_state (x : Point) : x.promoted.state = x.state := by unfold Point.promoted; split <;> rfl

/-- A record's state stays, or moves among the states of named points (R14 to R16). -/
theorem State.PointAct.state {x : Point} (h : s.PointAct c n x) :
    x.state = (s.pt n).state ∨ (s.pt n).state.named = true ∧ x.state.conditioned = true := by
  cases h with
  | graded code range => exact .inl (graded_state ..)
  | faulted | edited | staged => exact .inl rfl
  | aged => exact .inl (Point.aged_state _)
  | promoted => exact .inl (Point.promoted_state _)
  | activated _ hs | parked _ hs | unparked _ hs => exact .inr ⟨by rw [hs]; rfl, rfl⟩

theorem State.KeepsMarks.setPt {x : Point} (hin : x.inFlight = (s.pt n).inFlight)
    (hst : x.state = (s.pt n).state ∨ (s.pt n).state.named = true ∧ x.state.conditioned = true) :
    s.KeepsMarks (s.setPt n x) := by
  have hx (m : PointNo) : ((s.setPt n x).pt m).state = (s.pt m).state
      ∨ ((s.setPt n x).pt m).state.conditioned = true := by
    rw [State.setPt_pt]
    split
    · subst_vars; exact hst.imp_right And.right
    · exact .inl rfl
  refine ⟨fun m => ?_, fun _ => rfl, fun m hm => ?_, fun m hm => ?_⟩
  · rw [State.setPt_pt]
    split
    · subst_vars; exact hin
    · rfl
  · rcases hx m with h | h
    · rwa [h] at hm
    · rcases hm with hm | hm <;> rw [hm] at h <;> cases h
  · rcases hx m with h | h
    · rwa [h] at hm
    · rw [hm] at h; cases h

theorem State.KeepsMarks.setPort {x : SamplePort}
    (hx : x.phase.record.map ConvRecord.point = (s.port i).phase.record.map ConvRecord.point) :
    s.KeepsMarks (s.setPort i x) := by
  refine .of_ports rfl fun j => ?_
  unfold State.recordPoint
  rw [State.setPort_port]
  split
  · subst_vars; exact hx
  · rfl

theorem SamplePort.configured_recordPoint {x : SamplePort} (m : Mode) {on : Bool} (timeout : Nat)
    (hfree : on = false → x.phase.draining = false) :
    (x.configured m on timeout).phase.record.map ConvRecord.point = x.phase.record.map ConvRecord.point := by
  cases on with
  | true =>
    simp only [SamplePort.configured, if_true]
    split
    · rename_i h
      rw [h.2.2]
      rfl
    · rfl
  | false =>
    have hoff := SamplePort.orderOffline_of_drained (x := { x with enable := false, timeout := timeout }) (hfree rfl)
    show ({ x with enable := false, timeout := timeout } : SamplePort).orderOffline.phase.record.map _ = _
    rw [hoff]
    obtain ⟨phase⟩ := x
    cases phase with
    | busy | cancelling => cases hfree rfl
    | offline | probing | idle | faulted => rfl

/-- No change of one port alone opens or ends a conversion. -/
theorem State.PortAct.recordPoint {x : SamplePort} (h : s.PortAct i x) :
    x.phase.record.map ConvRecord.point = (s.port i).phase.record.map ConvRecord.point := by
  cases h with
  | strays => rfl
  | configured _ _ hfree => exact SamplePort.configured_recordPoint _ _ hfree
  | restored _ hp => rcases hp with hp | hp <;> rw [hp] <;> rfl
  | answered _ hp | absent hp => rw [hp]; rfl
  | timedOut hp => rw [hp]; rfl
  | superseded => exact SamplePort.supersedeRecord_recordPoint _

/-- The end of a record takes its mark with it (R7, R19). -/
theorem State.RecordLaw.ended (hs : s.RecordLaw) {r : ConvRecord} {x : SamplePort} (h : (s.port i).EndsAs r x) :
    ((s.setPort i x).endRecord r.point).RecordLaw := by
  obtain ⟨hmarks, hunmarked, hretiring⟩ := hs
  have hrecord : s.recordPoint i = some r.point := by
    unfold State.recordPoint
    cases h with
    | taken hp | released hp | expired hp => rw [hp]; rfl
  have hnone : x.phase.record = none := by
    cases h with
    | taken hp | expired hp => rfl
    | released hp =>
      unfold SamplePort.released
      simp only
      split <;> rfl
  have hmark := (hmarks r.point i).2 hrecord
  have hpt (m : PointNo) : ((s.setPort i x).endRecord r.point).pt m
      = if r.point = m then { s.pt r.point with
          inFlight := none
          state := if (s.pt r.point).state = .retiring then .free else (s.pt r.point).state } else s.pt m :=
    State.modPt_pt ..
  have hport (j : PortNo) : ((s.setPort i x).endRecord r.point).recordPoint j
      = if i = j then none else s.recordPoint j := by
    show ((s.setPort i x).port j).phase.record.map _ = _
    rw [State.setPort_port]
    split
    · rw [hnone]; rfl
    · rfl
  refine ⟨fun m j => ?_, fun m hm => ?_, fun m hm => ?_⟩
  · rw [hpt, hport]
    by_cases hm : r.point = m
    · subst hm
      by_cases hj : i = j
      · simp [hj]
      · rw [if_pos rfl, if_neg hj]
        refine ⟨nofun, fun hr => absurd (Option.some.inj (hmark.symm.trans ((hmarks _ j).2 hr))) hj⟩
    · rw [if_neg hm, hmarks m j]
      by_cases hj : i = j
      · subst hj
        simp [hrecord, hm]
      · rw [if_neg hj]
  · rw [hpt] at hm ⊢
    split
    · rfl
    · rename_i hne
      rw [if_neg hne] at hm
      exact hunmarked m hm
  · rw [hpt] at hm ⊢
    split at hm
    · simp only at hm
      split at hm <;> simp_all
    · rename_i hne
      rw [if_neg hne]
      exact hretiring m hm

/-- A dispatch opens a record and sets its mark (R66, R89). -/
theorem State.RecordLaw.dispatched (hs : s.RecordLaw) (o : Origin) (he : s.examine n = .dispatched) :
    (s.dispatch o n).RecordLaw := by
  obtain ⟨hmarks, hunmarked, hretiring⟩ := hs
  have hidle := State.idle_of_examine_dispatched he
  obtain ⟨hlive, hfree⟩ : (s.pt n).state = .live ∧ (s.pt n).inFlight = none := by
    unfold State.examine at he
    split at he
    · rename_i hlive
      rw [hidle] at he
      simp only at he
      split at he
      · exact ⟨hlive, ‹_›⟩
      · cases he
    · cases he
  generalize hi : (s.pt n).active.route.port = i at hidle
  have hpt (m : PointNo) : (s.dispatch o n).pt m
      = if n = m then { s.pt n with inFlight := some i } else s.pt m := by
    rw [← hi]
    exact State.modPt_pt (s.resolveAtCursor o .inFlight) n m fun x =>
      { x with inFlight := some (s.pt n).active.route.port }
  have hport (j : PortNo) : (s.dispatch o n).recordPoint j = if i = j then some n else s.recordPoint j := by
    rw [← hi]
    show ((State.modPort _ _ _).port j).phase.record.map _ = _
    rw [State.modPort_port]
    split <;> rfl
  have hrecord : s.recordPoint i = none := by
    unfold State.recordPoint
    rw [hidle]
    rfl
  refine ⟨fun m j => ?_, fun m hm => ?_, fun m hm => ?_⟩
  · rw [hpt, hport]
    by_cases hm : n = m
    · subst hm
      by_cases hj : i = j
      · simp [hj]
      · rw [if_pos rfl, if_neg hj, ← hmarks, hfree]
        simp [hj]
    · rw [if_neg hm, hmarks m j]
      by_cases hj : i = j
      · subst hj
        simp [hrecord, hm]
      · rw [if_neg hj]
  · rw [hpt] at hm ⊢
    split at hm
    · simp [hlive] at hm
    · rename_i hne
      rw [if_neg hne]
      exact hunmarked m hm
  · rw [hpt] at hm ⊢
    split at hm
    · simp [hlive] at hm
    · rename_i hne
      rw [if_neg hne]
      exact hretiring m hm

/-- A record that becomes a DRAFT point was FREE and had no mark (R12, R13). -/
theorem State.RecordLaw.defined (hs : s.RecordLaw) (hfree : (s.pt n).state = .free) (t : Tag) :
    ((s.setPt n (definedRecord (s.pt n) t)).link n t).RecordLaw := by
  obtain ⟨hmarks, hunmarked, hretiring⟩ := hs
  generalize hu : (s.setPt n (definedRecord (s.pt n) t)).link n t = u
  have same {β : Type} (g : Point → β) (hg : ∀ x h, g { x with next := h } = g x) (m : PointNo) :
      g (u.pt m) = if n = m then g (definedRecord (s.pt n) t) else g (s.pt m) := by
    rw [← hu]
    refine (State.setNext_pt_same (s := s.setPt n _) g hg ..).trans ?_
    rw [State.setPt_pt]
    split <;> rfl
  have hin (m : PointNo) : (u.pt m).inFlight = (s.pt m).inFlight := by
    rw [same Point.inFlight fun _ _ => rfl]
    split
    · subst_vars; exact (hunmarked _ (.inl hfree)).symm
    · rfl
  have hrecord (j : PortNo) : u.recordPoint j = s.recordPoint j := by rw [← hu]; rfl
  refine ⟨fun m j => ?_, fun m hm => ?_, fun m hm => ?_⟩
  · rw [hin, hrecord]; exact hmarks m j
  · rw [hin]
    rw [same Point.state fun _ _ => rfl] at hm
    split at hm
    · subst_vars; exact hunmarked _ (.inl hfree)
    · exact hunmarked m hm
  · rw [hin]
    rw [same Point.state fun _ _ => rfl] at hm
    split at hm
    · cases hm
    · exact hretiring m hm

/-- A retired record keeps its mark, RETIRING with one and FREE without (R17). -/
theorem State.RecordLaw.retired (hs : s.RecordLaw) (n : PointNo) : (s.retired n).RecordLaw := by
  obtain ⟨hmarks, hunmarked, hretiring⟩ := hs
  have hin (m : PointNo) : ((s.retired n).pt m).inFlight = (s.pt m).inFlight :=
    State.retired_pt_same Point.inFlight (fun _ _ => rfl) rfl m
  have hmark : ((s.unlink n).pt n).inFlight = (s.pt n).inFlight :=
    State.unlink_pt_same Point.inFlight (fun _ _ => rfl) n n
  have hstate (m : PointNo) : ((s.retired n).pt m).state
      = if n = m then (if (s.pt n).inFlight = none then .free else .retiring) else (s.pt m).state := by
    rw [State.retired_pt, State.modPt_pt]
    split
    · rw [← hmark]; rfl
    · exact State.unlink_pt_same Point.state (fun _ _ => rfl) n m
  have hrecord (j : PortNo) : (s.retired n).recordPoint j = s.recordPoint j := by
    unfold State.recordPoint
    rw [State.retired_port]
  refine ⟨fun m j => ?_, fun m hm => ?_, fun m hm => ?_⟩
  · rw [hin, hrecord]; exact hmarks m j
  · rw [hin]
    rw [hstate] at hm
    split at hm
    · subst_vars
      split at hm
      · assumption
      · simp at hm
    · exact hunmarked m hm
  · rw [hin]
    rw [hstate] at hm
    split at hm
    · subst_vars
      split at hm
      · cases hm
      · assumption
    · exact hretiring m hm

/-- With no mark, no record and no RETIRING point, marks and records agree. -/
theorem State.RecordLaw.of_none (hin : ∀ n, (t.pt n).inFlight = none) (hport : ∀ i, t.recordPoint i = none)
    (hst : ∀ n, (t.pt n).state ≠ .retiring) : t.RecordLaw :=
  ⟨fun n i => by simp [hin, hport], fun n _ => hin n, fun n h => absurd h (hst n)⟩

theorem Point.softReset_state (x : Point) :
    x.softReset.state = if x.state = .retiring then .free else x.state := by
  unfold Point.softReset
  simp only
  split <;> rfl

theorem Point.softReset_inFlight (x : Point) : x.softReset.inFlight = none := by
  unfold Point.softReset
  simp only
  split <;> rfl

/-- Every act keeps marks and records in agreement. -/
theorem State.RecordLaw.act (hs : s.RecordLaw) (hq : s.QuietLaw) (h : Act c s t) : t.RecordLaw := by
  have hwhole := hs
  obtain ⟨hmarks, -, -⟩ := hs
  cases h with
  | outside | run | holds | changed | marked | scan | resetFall =>
    exact State.RecordLaw.of_keeps hwhole (.of_ports rfl fun _ => rfl)
  | record h => exact State.RecordLaw.of_keeps hwhole (.setPt h.inFlight h.state)
  | conditions h =>
    refine State.RecordLaw.of_keeps hwhole (.of_records (fun n => by rw [h.record n]) (fun n => by rw [h.record n]) ?_)
    rw [h.frame]
    exact fun _ => rfl
  | port h => exact State.RecordLaw.of_keeps hwhole (.setPort h.recordPoint)
  | dispatched o hn he => exact State.RecordLaw.dispatched hwhole o he
  | withdrawn o =>
    refine State.RecordLaw.of_keeps hwhole (.of_ports (s.withdraw_pt o) fun j => ?_)
    unfold State.recordPoint
    rw [State.withdraw_port]
    split
    · exact SamplePort.cancelRequest_recordPoint _
    · rfl
  | @aborted n i r h =>
    have hcancel : (s.handOver r.origin n .cancelled).KeepsMarks
        ((s.handOver r.origin n .cancelled).modPort i SamplePort.cancelRequest) :=
      .setPort (SamplePort.cancelRequest_recordPoint _)
    exact State.RecordLaw.of_keeps hwhole ⟨hcancel.inFlight, hcancel.record, hcancel.unmarked, hcancel.retiring⟩
  | ended h hr => exact State.RecordLaw.ended hwhole h
  | cancelAll =>
    refine State.RecordLaw.of_keeps hwhole (.of_ports rfl fun j => ?_)
    show ((s.ports.map SamplePort.cancelRequest).get j).phase.record.map _ = _
    rw [Table.get_map]
    exact SamplePort.cancelRequest_recordPoint _
  | quiet hfree =>
    refine State.RecordLaw.of_keeps hwhole (.of_ports rfl fun j => ?_)
    show ((s.ports.map SamplePort.orderOffline).get j).phase.record.map _ = _
    rw [Table.get_map]
    have hj : (s.ports.get j).phase.draining = false := hfree j
    have hnone : s.recordPoint j = none := by
      unfold State.recordPoint
      cases hp : (s.port j).phase with
      | busy | cancelling => exact nomatch (hp ▸ hfree j)
      | offline | probing | idle | faulted => rfl
    rw [SamplePort.orderOffline_of_drained hj, hnone]
    rfl
  | waking hquiet =>
    refine State.RecordLaw.of_keeps hwhole (.of_ports rfl fun j => ?_)
    show ((s.ports.map fun x : SamplePort => if x.enable then x.enterProbing else x).get j).phase.record.map _ = _
    have hnone : s.recordPoint j = none := by
      unfold State.recordPoint
      rw [hq hquiet j]
      rfl
    rw [Table.get_map, hnone]
    split
    · rfl
    · exact hnone
  | defined hc ht hnew hfree => exact State.RecordLaw.defined hwhole hfree _
  | retired => exact State.RecordLaw.retired hwhole _
  | softReset =>
    refine .of_none (fun n => ?_) (fun j => ?_) fun n => ?_
    · rw [State.softReset_pt, Point.softReset_inFlight]
    · unfold State.recordPoint
      rw [State.softReset_port]
      rfl
    · rw [State.softReset_pt, Point.softReset_state]
      split
      · nofun
      · assumption
  | initial =>
    refine .of_none (fun n => ?_) (fun j => ?_) fun n => ?_
    · rw [State.initial_pt]; rfl
    · show (State.reset).recordPoint j = none
      unfold State.recordPoint
      rw [State.reset_port]
      rfl
    · rw [State.initial_pt]; nofun

/-! ### IN_FLIGHT entries (R66, R92) -/

theorem Phase.converts_iff {ph : Phase} {o : Origin} :
    ph.converts n o = true ↔ ∃ r k, ph = .busy r k ∧ r.point = n ∧ r.origin = o := by
  cases ph with
  | busy r k => simp [Phase.converts]
  | offline | probing | idle | cancelling | faulted => simp [Phase.converts]

theorem State.flightLaw_iff : s.FlightLaw ↔
    ∀ o m, (⟨m, .inFlight⟩ : Entry) ∈ s.scan.entries o → ∃ j, (s.port j).phase.converts m o = true := by
  refine ⟨fun h o m hm => h o _ hm rfl, fun h o e he ho => ?_⟩
  obtain ⟨m, out⟩ := e
  obtain rfl := ho
  exact h o m he

/-- An act that makes no entry IN_FLIGHT and leaves the port of every entry that stays so. -/
theorem State.FlightLaw.of_subset (hs : s.FlightLaw)
    (hsub : ∀ o m, (⟨m, .inFlight⟩ : Entry) ∈ t.scan.entries o → (⟨m, .inFlight⟩ : Entry) ∈ s.scan.entries o)
    (hport : ∀ o m j, (⟨m, .inFlight⟩ : Entry) ∈ t.scan.entries o → (s.port j).phase.converts m o = true →
      (t.port j).phase.converts m o = true) : t.FlightLaw := by
  refine State.flightLaw_iff.2 fun o m hm => ?_
  obtain ⟨j, hj⟩ := State.flightLaw_iff.1 hs o m (hsub o m hm)
  exact ⟨j, hport o m j hm hj⟩

theorem State.FlightLaw.of_same (hs : s.FlightLaw) (hscan : t.scan = s.scan) (hport : t.port = s.port) :
    t.FlightLaw :=
  hs.of_subset (fun _ _ h => hscan ▸ h) fun _ _ _ _ h => hport ▸ h

theorem mem_resolveCursor_inFlight {m : PointNo} {out : EntryOutcome} (hout : out ≠ .inFlight) {es : List Entry}
    (h : (⟨m, .inFlight⟩ : Entry) ∈ resolveCursor out es) : (⟨m, .inFlight⟩ : Entry) ∈ es := by
  induction es with
  | nil => exact h
  | cons e es ih =>
    unfold resolveCursor at h
    split at h
    · rcases List.mem_cons.1 h with he | h
      · exact absurd (congrArg Entry.outcome he).symm hout
      · exact List.mem_cons_of_mem _ h
    · rcases List.mem_cons.1 h with he | h
      · exact List.mem_cons.2 (.inl he)
      · exact List.mem_cons_of_mem _ (ih h)

theorem mem_setOutcomes_inFlight {m : PointNo} {out : EntryOutcome} (hout : out ≠ .inFlight) {es : List Entry} :
    (⟨m, .inFlight⟩ : Entry) ∉ setOutcomes out es := by
  intro h
  obtain ⟨e, -, he⟩ := List.mem_map.1 h
  exact hout (congrArg Entry.outcome he)

/-- A list without an open entry has none IN_FLIGHT. -/
theorem not_inFlight_of_allClosed {es : List Entry} (h : allClosed es) (m : PointNo) :
    (⟨m, .inFlight⟩ : Entry) ∉ es := fun hm => nomatch h _ hm

/-- Only a dispatch makes an entry IN_FLIGHT (R66). -/
theorem State.ScanAct.inFlight {x : Scan} (h : s.ScanAct x) {o : Origin} {m : PointNo}
    (hm : (⟨m, .inFlight⟩ : Entry) ∈ x.entries o) : (⟨m, .inFlight⟩ : Entry) ∈ s.scan.entries o := by
  cases h with
  | resolve o' hout =>
    rw [Scan.setEntries_entries] at hm
    split at hm
    · subst_vars; exact mem_resolveCursor_inFlight hout.2 hm
    · exact hm
  | handOver o' n hout =>
    rw [Scan.setEntries_entries] at hm
    split at hm
    · subst_vars; exact (mem_resolveInFlight hout hm).2
    · exact hm
  | holdRerun | endRun | requestStop | nextInterval | late | countPass | enterGap | goIdle | config =>
    cases o <;> exact hm
  | rerun | startRun =>
    cases o with
    | routine => exact hm
    | priority => exact absurd hm (mem_setOutcomes_inFlight (by decide))
  | begin mode =>
    cases o with
    | routine => exact absurd hm (mem_setOutcomes_inFlight (by decide))
    | priority => cases mode <;> exact hm
  | startPass =>
    cases o with
    | routine => exact absurd hm (mem_setOutcomes_inFlight (by decide))
    | priority => exact hm
  | promoteList =>
    unfold Scan.promoteList at hm
    split at hm
    · cases o with
      | routine => exact absurd hm (not_inFlight_of_allClosed (allClosed_freshEntries _) m)
      | priority => exact hm
    · exact hm
  | insert k n =>
    rw [Scan.insertPoint_eq, Scan.withRoutineList] at hm
    split at hm
    · cases o with
      | routine =>
        rcases List.mem_append.1 hm with hm | hm
        · exact List.mem_of_mem_take hm
        · rcases List.mem_cons.1 hm with he | hm
          · cases he
          · exact List.mem_of_mem_drop hm
      | priority => exact hm
    · cases o <;> exact hm
  | remove n =>
    rw [Scan.removePoint_eq, Scan.withRoutineList] at hm
    split at hm
    · cases o with
      | routine => exact (List.mem_filter.1 hm).1
      | priority => exact hm
    · cases o <;> exact hm
  | clear =>
    rw [Scan.clearList_eq] at hm
    simp only [Scan.withRoutineList] at hm
    split at hm
    · cases o with
      | routine => cases hm
      | priority => exact hm
    · cases o <;> exact hm
  | setPrio ns =>
    cases o with
    | routine => exact hm
    | priority => exact absurd hm (not_inFlight_of_allClosed (allClosed_freshEntries _) m)

/-- A port converting for an IN_FLIGHT entry goes on with it through a change of its own (R91, R100). -/
theorem State.PortAct.converts {x : SamplePort} (h : s.PortAct i x) {o : Origin} {m : PointNo}
    (hm : (⟨m, .inFlight⟩ : Entry) ∈ s.scan.entries o) (hi : (s.port i).phase.converts m o = true) :
    x.phase.converts m o = true := by
  obtain ⟨r, k, hp, hpoint, horigin⟩ := Phase.converts_iff.1 hi
  cases h with
  | strays => exact hi
  | @configured on timeout _ _ hfree =>
    cases on with
    | true => simpa [SamplePort.configured, hp] using hi
    | false => exact nomatch hp ▸ hfree rfl
  | restored _ hq => rcases hq with hq | hq <;> exact nomatch hp.symm.trans hq
  | answered _ hq | absent hq => exact nomatch hp.symm.trans hq
  | timedOut hq hr =>
    obtain ⟨rfl, -⟩ := Phase.busy.inj (hp.symm.trans hq)
    exact absurd (by rwa [hpoint, horigin]) hr
  | superseded =>
    exact Phase.converts_iff.2 ⟨{ r with superseded := true }, k,
      by simp [SamplePort.supersedeRecord, hp, Phase.mapRecord], hpoint, horigin⟩

/-- The record of a converting port names the point with the mark (R7). -/
theorem State.RecordLaw.mark_of_converts (hs : s.RecordLaw) {o : Origin} {m : PointNo}
    (h : (s.port i).phase.converts m o = true) : (s.pt m).inFlight = some i := by
  obtain ⟨r, k, hp, hpoint, -⟩ := Phase.converts_iff.1 h
  refine (hs.1 m i).2 ?_
  unfold State.recordPoint
  rw [hp, ← hpoint]
  rfl

theorem Phase.converts_origin {ph : Phase} {o o' : Origin} {m m' : PointNo} (h : ph.converts m o = true)
    (h' : ph.converts m' o' = true) : m = m' ∧ o = o' := by
  obtain ⟨r, k, hp, hpoint, horigin⟩ := Phase.converts_iff.1 h
  obtain ⟨r', k', hp', hpoint', horigin'⟩ := Phase.converts_iff.1 h'
  obtain ⟨rfl, -⟩ := Phase.busy.inj (hp.symm.trans hp')
  exact ⟨hpoint.symm.trans hpoint', horigin.symm.trans horigin'⟩

/-- A withdrawal cancels the conversions of its own list alone (R73, R92). -/
theorem State.FlightLaw.withdrawn (hs : s.FlightLaw) (hr : s.RecordLaw) (o : Origin) : (s.withdraw o).FlightLaw := by
  have hin {o' : Origin} {m : PointNo} (hm : (⟨m, .inFlight⟩ : Entry) ∈ (s.withdraw o).scan.entries o') :
      o ≠ o' ∧ (⟨m, .inFlight⟩ : Entry) ∈ s.scan.entries o' := by
    have hne : o ≠ o' := by
      rintro rfl
      exact not_inFlight_of_allClosed (s.withdraw_closed o) m hm
    rw [State.withdraw_scan, Scan.setEntries_entries, if_neg hne] at hm
    exact ⟨hne, hm⟩
  refine hs.of_subset (fun _ _ hm => (hin hm).2) fun o' m j hm hj => ?_
  rw [State.withdraw_port, if_neg]
  · exact hj
  · rintro ⟨m', hm', hmark⟩
    obtain ⟨j', hj'⟩ := State.flightLaw_iff.1 hs o m' hm'
    obtain rfl := Option.some.inj (hmark.symm.trans (State.RecordLaw.mark_of_converts hr hj'))
    exact (hin hm).1 (Phase.converts_origin hj' hj).2

/-- An abort resolves the entry of the conversion that it cancels (R73). -/
theorem State.FlightLaw.aborted (hs : s.FlightLaw) (hr : s.RecordLaw) {r : ConvRecord}
    (h : s.abortable n = some (i, r)) :
    ((s.handOver r.origin n .cancelled).modPort i SamplePort.cancelRequest).FlightLaw := by
  obtain ⟨hmark, ⟨k, hp⟩, -⟩ := State.abortable_spec h
  have hpoint : r.point = n := by
    have hrecord := (hr.1 n i).1 hmark
    unfold State.recordPoint at hrecord
    rw [hp] at hrecord
    exact Option.some.inj hrecord
  have hin {o : Origin} {m : PointNo}
      (hm : (⟨m, .inFlight⟩ : Entry) ∈ (s.scan.setEntries r.origin
        (resolveInFlight n .cancelled (s.scan.entries r.origin))).entries o) :
      ¬(r.origin = o ∧ n = m) ∧ (⟨m, .inFlight⟩ : Entry) ∈ s.scan.entries o := by
    rw [Scan.setEntries_entries] at hm
    split at hm
    · subst_vars
      obtain ⟨hne, hm⟩ := mem_resolveInFlight (by decide) hm
      exact ⟨fun h => hne h.2.symm, hm⟩
    · rename_i hne
      exact ⟨fun h => hne h.1, hm⟩
  refine hs.of_subset (fun _ _ hm => (hin hm).2) fun o m j hm hj => ?_
  rw [State.modPort_port]
  split
  · subst_vars
    refine absurd ?_ (hin hm).1
    obtain ⟨r', k', hp', hpoint', horigin'⟩ := Phase.converts_iff.1 hj
    obtain ⟨rfl, -⟩ := Phase.busy.inj (hp.symm.trans hp')
    exact ⟨horigin', hpoint'⟩
  · exact hj

theorem mem_resolveCursor_dispatched {m : PointNo} {es : List Entry}
    (h : (⟨m, .inFlight⟩ : Entry) ∈ resolveCursor .inFlight es) :
    cursorPoint es = some m ∨ (⟨m, .inFlight⟩ : Entry) ∈ es := by
  induction es with
  | nil => exact .inr h
  | cons e es ih =>
    unfold resolveCursor at h
    unfold cursorPoint
    split at h
    · rename_i hp
      rcases List.mem_cons.1 h with he | h
      · obtain rfl := congrArg Entry.point he
        exact .inl (by simp [hp])
      · exact .inr (List.mem_cons_of_mem _ h)
    · rename_i hp
      rw [List.find?_cons_of_neg (by simpa using hp)]
      rcases List.mem_cons.1 h with he | h
      · exact .inr (List.mem_cons.2 (.inl he))
      · exact (ih h).imp_right (List.mem_cons_of_mem _)

/-- A dispatch turns an IDLE port BUSY for the entry that it makes IN_FLIGHT (R66, R89). -/
theorem State.FlightLaw.dispatched (hs : s.FlightLaw) {o : Origin} (hn : cursorPoint (s.scan.entries o) = some n)
    (he : s.examine n = .dispatched) : (s.dispatch o n).FlightLaw := by
  have hidle := State.idle_of_examine_dispatched he
  generalize hi : (s.pt n).active.route.port = i at hidle
  have hport (j : PortNo) :
      (s.dispatch o n).port j = if i = j then (s.port i).open n (s.pt n).active.route o else s.port j := by
    rw [← hi]
    exact State.modPort_port ..
  have hold {o' : Origin} {m : PointNo} (hm : (⟨m, .inFlight⟩ : Entry) ∈ s.scan.entries o') :
      ∃ j, ((s.dispatch o n).port j).phase.converts m o' = true := by
    obtain ⟨j, hj⟩ := State.flightLaw_iff.1 hs o' m hm
    refine ⟨j, ?_⟩
    rw [hport, if_neg]
    · exact hj
    · rintro rfl
      rw [hidle] at hj
      cases hj
  refine State.flightLaw_iff.2 fun o' m hm => ?_
  have hm' : (⟨m, .inFlight⟩ : Entry)
      ∈ (s.scan.setEntries o (resolveCursor .inFlight (s.scan.entries o))).entries o' := hm
  rw [Scan.setEntries_entries] at hm'
  split at hm'
  · subst_vars
    rcases mem_resolveCursor_dispatched hm' with hcursor | hm'
    · obtain rfl := Option.some.inj (hn.symm.trans hcursor)
      refine ⟨(s.pt n).active.route.port, ?_⟩
      rw [hport, if_pos rfl]
      simp [SamplePort.open, Phase.converts]
    · exact hold hm'
  · exact hold hm'

/-- With no entry IN_FLIGHT the law holds. -/
theorem State.FlightLaw.of_none
    (h : ∀ o m, (⟨m, .inFlight⟩ : Entry) ∉ t.scan.entries o) : t.FlightLaw :=
  State.flightLaw_iff.2 fun o m hm => absurd hm (h o m)

/-- Every act keeps IN_FLIGHT entries and BUSY ports in agreement. -/
theorem State.FlightLaw.act (hs : s.FlightLaw) (hr : s.RecordLaw) (hq : s.QuietLaw) (hl : s.ScanLaws)
    (h : Act c s t) : t.FlightLaw := by
  have busy_of {o : Origin} {m : PointNo} {j : PortNo} (hj : (s.port j).phase.converts m o = true) :
      ∃ r k, (s.port j).phase = .busy r k := by
    obtain ⟨r, k, hp, -⟩ := Phase.converts_iff.1 hj
    exact ⟨r, k, hp⟩
  cases h with
  | outside | run | holds | changed | marked | record | defined => exact hs.of_same rfl rfl
  | resetFall => exact hs.of_subset (fun o _ h => by cases o <;> exact h) fun _ _ _ _ h => h
  | scan h => exact hs.of_subset (fun _ _ => h.inFlight) fun _ _ _ _ hj => hj
  | conditions h => rw [h.frame]; exact hs.of_same rfl rfl
  | port h =>
    refine hs.of_subset (fun _ _ hm => hm) fun o m j hm hj => ?_
    rw [State.setPort_port]
    split
    · subst_vars; exact h.converts hm hj
    · exact hj
  | dispatched o hn he => exact State.FlightLaw.dispatched hs hn he
  | withdrawn o => exact State.FlightLaw.withdrawn hs hr o
  | aborted h => exact State.FlightLaw.aborted hs hr h
  | @ended i r x h hin =>
    refine hs.of_subset (fun _ _ hm => hm) fun o m j hm hj => ?_
    show ((s.setPort i x).port j).phase.converts m o = true
    rw [State.setPort_port]
    split
    · subst_vars
      obtain ⟨r', k', hp', hpoint, horigin⟩ := Phase.converts_iff.1 hj
      cases h with
      | taken hp =>
        obtain ⟨rfl, -⟩ := Phase.busy.inj (hp.symm.trans hp')
        exact absurd (by rw [hpoint, horigin]; exact hm) (hin _ hp)
      | released hp | expired hp => exact nomatch hp.symm.trans hp'
    · exact hj
  | cancelAll hidle hrun =>
    obtain ⟨⟨hscanner, -⟩, hprio⟩ := hl
    obtain ⟨-, -, -, hactive, -⟩ := hscanner hidle
    refine .of_none fun o m => ?_
    cases o with
    | routine => exact not_inFlight_of_allClosed hactive m
    | priority => exact not_inFlight_of_allClosed (hprio hrun).2 m
  | quiet hfree =>
    refine hs.of_subset (fun _ _ hm => hm) fun o m j hm hj => ?_
    obtain ⟨r, k, hp⟩ := busy_of hj
    exact nomatch hp ▸ hfree j
  | waking hquiet =>
    refine hs.of_subset (fun _ _ hm => hm) fun o m j hm hj => ?_
    obtain ⟨r, k, hp⟩ := busy_of hj
    exact nomatch hp.symm.trans (hq hquiet j)
  | @retired p ps n =>
    refine hs.of_subset (fun o m hm => ?_) fun o m j hm hj => by rwa [State.retired_port]
    rw [State.retired_scan] at hm
    cases o <;> exact (List.mem_filter.1 hm).1
  | softReset =>
    refine .of_none fun o m => ?_
    cases o <;> exact mem_setOutcomes_inFlight (by decide)
  | initial =>
    refine .of_none fun o m => ?_
    cases o <;> nofun

/-! ### A tick -/

theorem SamplePort.elapse_recordPoint (x : SamplePort) :
    x.elapse.phase.record.map ConvRecord.point = x.phase.record.map ConvRecord.point := by
  unfold SamplePort.elapse
  cases x.phase <;> rfl

theorem SamplePort.elapse_offline {x : SamplePort} (h : x.phase = .offline) : x.elapse.phase = .offline := by
  simp [SamplePort.elapse, h]

theorem SamplePort.elapse_converts {x : SamplePort} {o : Origin} (h : x.phase.converts n o = true) :
    x.elapse.phase.converts n o = true := by
  unfold SamplePort.elapse
  cases hp : x.phase with
  | busy r k => rwa [hp] at h
  | offline | probing | idle | cancelling | faulted => exact nomatch hp ▸ h

/-- A tick takes ticks off the timers of the ports and leaves records, entries and phases. -/
theorem State.idle_port (s : State) (i : PortNo) : s.idle.port i = s.port i ∨ s.idle.port i = (s.port i).elapse := by
  unfold State.idle
  split
  · exact .inl rfl
  · exact .inr (s.elapse_port i)

theorem State.idle_pt (s : State) : s.idle.pt = s.pt := by
  unfold State.idle
  split <;> rfl

theorem State.idle_entries (s : State) (o : Origin) : s.idle.scan.entries o = s.scan.entries o := by
  unfold State.idle
  split
  · rfl
  · cases o <;> rfl

theorem State.idle_mode (s : State) : s.idle.run.mode = s.run.mode := by
  unfold State.idle
  split <;> rfl

theorem State.RecordLaw.idle (hs : s.RecordLaw) : s.idle.RecordLaw := by
  refine State.RecordLaw.of_keeps hs (.of_ports s.idle_pt fun j => ?_)
  unfold State.recordPoint
  rcases s.idle_port j with hj | hj
  · rw [hj]
  · rw [hj, SamplePort.elapse_recordPoint]

theorem State.FlightLaw.idle (hs : s.FlightLaw) : s.idle.FlightLaw := by
  refine hs.of_subset (fun o m hm => by rwa [State.idle_entries] at hm) fun o m j _ hj => ?_
  rcases s.idle_port j with h | h
  · rwa [h]
  · rw [h]; exact SamplePort.elapse_converts hj

theorem State.QuietLaw.idle (hs : s.QuietLaw) : s.idle.QuietLaw := by
  refine hs.of_offline (fun h => by rwa [State.idle_mode] at h) fun _ j hj => ?_
  rcases s.idle_port j with h | h
  · rwa [h]
  · rw [h]; exact SamplePort.elapse_offline hj

/-- What every act and every tick keeps together: the marks, the records and the IN_FLIGHT entries, with the laws of the
scan engine and of QUIET, which they rest on. -/
structure State.FlightLaws (s : State) : Prop where
  scan : s.ScanLaws
  quiet : s.QuietLaw
  record : s.RecordLaw
  flight : s.FlightLaw

theorem State.FlightLaws.act (hs : s.FlightLaws) (h : Act c s t) : t.FlightLaws :=
  ⟨hs.scan.act h, hs.quiet.act h, State.RecordLaw.act hs.record hs.quiet h,
    State.FlightLaw.act hs.flight hs.record hs.quiet hs.scan h⟩

theorem State.FlightLaws.idle (hs : s.FlightLaws) : s.idle.FlightLaws :=
  ⟨hs.scan.idle, hs.quiet.idle, State.RecordLaw.idle hs.record, State.FlightLaw.idle hs.flight⟩

theorem State.FlightLaws.queue (hs : s.FlightLaws) (rest : List Instr) :
    ({ s with pending := rest } : State).FlightLaws :=
  ⟨hs.scan.of_keeps (.of_pt rfl rfl), hs.quiet.of_offline id fun _ _ => id,
    State.RecordLaw.of_keeps hs.record (.of_ports rfl fun _ => rfl), hs.flight.of_same rfl rfl⟩

end

/-- Settles O54: each act of a step keeps marks, records and IN_FLIGHT entries in agreement, and so does a tick. -/
theorem everyStepKeepsMarksAndRecords : Obligations.EveryStepKeepsMarksAndRecords := by
  intro s t hmode hscanner hrun hrecord hflight ht
  obtain ⟨-, hquiet, -⟩ := hmode
  have hlaws : t.FlightLaws := step_keeps (P := State.FlightLaws) (fun _ => State.FlightLaws.idle)
    (fun _ rest h => h.queue rest) (fun h hs => hs.act h) ⟨⟨hscanner, hrun⟩, hquiet, hrecord, hflight⟩ ht
  exact ⟨hlaws.record, hlaws.flight⟩

end Sys2Proof.Machine

/-! SUPPORT. The tag index: what a chain and a lookup depend on (R23 to R27). -/

namespace Sys2Proof.Machine

section

variable {s t : State}

/-- From `s` to `t` the tag index stays as it is. -/
structure State.KeepsIndex (s t : State) : Prop where
  heads : t.heads = s.heads
  tag : ∀ n, (t.pt n).tag = (s.pt n).tag
  next : ∀ n, (t.pt n).next = (s.pt n).next

theorem State.KeepsIndex.of_pt (hheads : t.heads = s.heads) (hpt : t.pt = s.pt) : s.KeepsIndex t :=
  ⟨hheads, fun _ => by rw [hpt], fun _ => by rw [hpt]⟩

theorem State.KeepsIndex.trans {u : State} (h : s.KeepsIndex t) (k : t.KeepsIndex u) : s.KeepsIndex u :=
  ⟨k.heads.trans h.heads, fun n => (k.tag n).trans (h.tag n), fun n => (k.next n).trans (h.next n)⟩

theorem EngineKeeps.keepsIndex (h : EngineKeeps s t) : s.KeepsIndex t :=
  ⟨h.heads, fun n => (h.points n).tag, fun n => (h.points n).next⟩

theorem State.KeepsIndex.chainFrom (h : s.KeepsIndex t) (fuel : Nat) (start : Option PointNo) :
    t.chainFrom fuel start = s.chainFrom fuel start := by
  induction fuel generalizing start with
  | zero => rfl
  | succ fuel ih =>
    cases start with
    | none => rfl
    | some n => simp [State.chainFrom, h.next, ih]

theorem State.KeepsIndex.head (h : s.KeepsIndex t) (b : Byte) : t.head b = s.head b :=
  congrArg (fun heads : Table (Option PointNo) 256 => heads.get (bucketNo b)) h.heads

theorem State.KeepsIndex.chain (h : s.KeepsIndex t) (b : Byte) : t.chain b = s.chain b := by
  unfold State.chain
  rw [h.head, h.chainFrom]

theorem State.KeepsIndex.lookup (h : s.KeepsIndex t) (tag : Tag) : t.lookup tag = s.lookup tag := by
  unfold State.lookup
  rw [chainFind_eq_find?, chainFind_eq_find?, h.head, h.chainFrom]
  simp only [h.tag]

/-- A sound index stays sound where it and the names stay as they are. -/
theorem State.IndexLaw.of_keeps (hs : s.IndexLaw) (h : s.KeepsIndex t)
    (hnamed : ∀ n, (t.pt n).state.named = (s.pt n).state.named) : t.IndexLaw := by
  unfold State.IndexLaw
  simpa only [h.chain, h.tag, h.next, hnamed] using hs

theorem State.answered_keepsIndex (s : State) (p : CmdPort) (st : Status) (data : List Byte) :
    s.KeepsIndex (s.answered p st data) := .of_pt rfl rfl

theorem State.IndexLaw.of_answered {p : CmdPort} {st : Status} {data : List Byte}
    (h : (s.answered p st data).IndexLaw) : s.IndexLaw :=
  State.IndexLaw.of_keeps h (.of_pt rfl rfl) fun _ => rfl

end

end Sys2Proof.Machine

/-! SUPPORT. A tag index whose one chain does not end. `State.IndexLaw` reads a chain of 512 records to its 512th and
leaves open what that last record links to; a chain that goes round is sound by it, and the retirement of its head
leaves the retired record on it. -/

namespace Sys2Proof.Machine

/-! ### A chain that goes round -/

/-- A tag for each point, all in bucket 0. -/
def loopTag (n : PointNo) : Tag := BitVec.ofNat 16 (n.val + 1) ++ BitVec.ofNat 16 (n.val + 1)

theorem bucketOf_append_self (w : BitVec 16) : bucketOf (w ++ w) = 0#8 := by
  unfold bucketOf
  rw [BitVec.extractLsb'_append_eq_of_le (by decide), BitVec.extractLsb'_append_eq_of_le (by decide),
    BitVec.extractLsb'_append_eq_of_add_le (by decide), BitVec.extractLsb'_append_eq_of_add_le (by decide)]
  simp

theorem loopTag_low (n : PointNo) : (loopTag n).setWidth 16 = BitVec.ofNat 16 (n.val + 1) := by
  rw [loopTag, BitVec.setWidth_append]
  simp

theorem loopTag_injective {n m : PointNo} (h : loopTag n = loopTag m) : n = m := by
  have hlow : BitVec.ofNat 16 (n.val + 1) = BitVec.ofNat 16 (m.val + 1) := by rw [← loopTag_low, h, loopTag_low]
  have hval := congrArg BitVec.toNat hlow
  simp only [BitVec.toNat_ofNat] at hval
  exact Fin.ext (by omega)

theorem loopTag_ne_zero (n : PointNo) : loopTag n ≠ 0#32 := by
  intro h
  have hlow := congrArg BitVec.toNat ((loopTag_low n).symm.trans (congrArg (BitVec.setWidth 16) h))
  simp only [BitVec.toNat_ofNat, BitVec.setWidth_zero] at hlow
  omega

/-- Every record a DRAFT point that links to the one above it, the last to record 0. -/
def loopPoint (n : PointNo) : Point := { Point.initial with state := .draft, tag := loopTag n, next := some (n + 1) }

/-- The parameters of RETIRE for point 0. -/
abbrev retireZero : List Byte := [0x01#8, 0x00#8, 0x00#8, 0x00#8, 0x00#8]

/-- The part in QUIET with all 512 points on one chain that goes round, and RETIRE of point 0 waiting. -/
def looped : State :=
  { State.reset with
    points := ⟨(List.finRange 512).map loopPoint, by simp⟩
    heads := State.reset.heads.set 0 (some 0)
    cmdPorts := State.reset.cmdPorts.set .host
      { CommandPort.initial with state := .waiting ⟨opcodeOf .retire, retireZero⟩ } }

theorem looped_pt (n : PointNo) : looped.pt n = loopPoint n := by
  simp [State.pt, looped, Table.get]

theorem looped_head (b : Byte) : looped.head b = if b = 0#8 then some 0 else none := by
  have hb : (0 : Fin 256) = bucketNo b ↔ b = 0#8 := by
    simp [bucketNo, Fin.ext_iff, BitVec.toNat_eq, eq_comm]
  have hset : looped.head b = (State.reset.heads.set 0 (some 0)).get (bucketNo b) := rfl
  rw [hset, Table.get_set]
  simp only [hb]
  split
  · rfl
  · exact Table.get_replicate ..

/-- The record `k` links after record `n` of a chain that counts up and goes round. -/
def loopStep (n : PointNo) (k : Nat) : PointNo := n + Fin.ofNat 512 k

theorem loopStep_val (n : PointNo) (k : Nat) : (loopStep n k).val = (n.val + k) % 512 := by
  simp [loopStep, Fin.val_add]

theorem loopStep_succ (n : PointNo) (k : Nat) : loopStep n (k + 1) = loopStep (n + 1) k := by
  apply Fin.ext
  have h1 : (n + 1).val = (n.val + 1) % 512 := rfl
  rw [loopStep_val, loopStep_val, h1]
  omega

/-- Where each record but the last of a chain links to the one above it, the chain counts up. -/
theorem chainFrom_of_counting {s : State} {fuel : Nat} {n : PointNo}
    (h : ∀ k, k + 1 < fuel → (s.pt (loopStep n k)).next = some (loopStep n k + 1)) :
    s.chainFrom fuel (some n) = (List.range fuel).map (loopStep n) := by
  induction fuel generalizing n with
  | zero => rfl
  | succ fuel ih =>
    rw [State.chainFrom, List.range_succ_eq_map, List.map_cons, List.map_map]
    have hzero : loopStep n 0 = n := add_zero n
    rw [hzero]
    congr 1
    cases fuel with
    | zero => rfl
    | succ fuel =>
      have hnext := h 0 (by omega)
      rw [hzero] at hnext
      rw [hnext, ih fun k hk => by rw [← loopStep_succ]; exact h (k + 1) (by omega)]
      exact List.map_congr_left fun k _ => (loopStep_succ n k).symm

theorem loopStep_nodup (n : PointNo) : ((List.range 512).map (loopStep n)).Nodup := by
  refine List.nodup_range.map_on fun a ha b hb h => ?_
  have hval := congrArg Fin.val h
  rw [loopStep_val, loopStep_val] at hval
  have := List.mem_range.1 ha
  have := List.mem_range.1 hb
  omega

theorem mem_loopStep (n m : PointNo) : m ∈ (List.range 512).map (loopStep n) := by
  refine List.mem_map.2 ⟨(m.val + 512 - n.val) % 512, List.mem_range.2 (Nat.mod_lt _ (by decide)), Fin.ext ?_⟩
  rw [loopStep_val]
  omega

theorem looped_chain (b : Byte) : looped.chain b = if b = 0#8 then (List.range 512).map (loopStep 0) else [] := by
  unfold State.chain
  rw [looped_head]
  split
  · exact chainFrom_of_counting fun k _ => by rw [looped_pt]; rfl
  · rfl

/-- A chain that goes round is sound by `State.IndexLaw`: read to its 512th record it holds each point once. -/
theorem looped_indexLaw : looped.IndexLaw := by
  refine ⟨fun b => ?_, fun b n => ?_, fun n hn => ?_, fun n _ => ?_, fun n m _ _ h => ?_⟩
  · rw [looped_chain]
    split
    · exact loopStep_nodup 0
    · exact .nil
  · have hbucket : bucketOf (loopPoint n).tag = 0#8 := bucketOf_append_self _
    rw [looped_chain, looped_pt, hbucket]
    split
    · subst_vars
      exact ⟨fun _ => ⟨rfl, rfl⟩, fun _ => mem_loopStep 0 n⟩
    · rename_i hb
      exact ⟨nofun, fun h => absurd h.2.symm hb⟩
  · rw [looped_pt] at hn
    cases hn
  · rw [looped_pt]
    exact loopTag_ne_zero n
  · rw [looped_pt, looped_pt] at h
    exact loopTag_injective h

/-! ### After the retirement of point 0 -/

section

variable {s : State} {n : PointNo}

/-- Without a condition entry a RETIRE leaves the index, and the states, as the removal of the record left them. -/
theorem State.retirePoint_keepsIndex (h : (s.retired n).retireEntry n = s.retired n) :
    (s.retired n).KeepsIndex (s.retirePoint n) := by
  rw [State.retirePoint_eq, h]
  exact State.KeepsIndex.trans (t := ((s.retired n).forgetExpired .host n).forgetExpired .service n) (.of_pt rfl rfl)
    (State.settle_keeps _).keepsIndex

theorem State.retirePoint_state (h : (s.retired n).retireEntry n = s.retired n) (m : PointNo) :
    ((s.retirePoint n).pt m).state = ((s.retired n).pt m).state := by
  rw [State.retirePoint_eq, h]
  exact ((State.settle_keeps (((s.retired n).forgetExpired .host n).forgetExpired .service n)).points m).state

theorem State.setNext_head (m : PointNo) (h : Option PointNo) (b : Byte) : (s.setNext m h).head b = s.head b := rfl

theorem State.retired_head (b : Byte) : (s.retired n).head b = (s.unlink n).head b := rfl

theorem State.retired_entryOf : (s.retired n).entryOf n = (s.unlink n).entryOf n := rfl

end

theorem looped_takes : looped.Takes .retire .host retireZero := by decide

theorem looped_resolve : looped.resolve (selectorAt retireZero 0) = .ok 0 := by
  have hname : selectorAt retireZero 0 = some (.number 0) := by decide
  rw [hname, State.resolve_number_eq_ok, looped_pt]
  exact ⟨rfl, rfl⟩

/-- The state that RETIRE of point 0 leaves, before its answer. -/
abbrev opened : State := looped.retirePoint 0

theorem exec_retire_looped : ∃ data,
    exec (.retire .host retireZero) looped = .next (opened.answered .host .ok data) := by
  let x := retiredRecord (looped.pt 0)
  refine ⟨bytes16 x.revision ++ [pointStateCode x.state], exec_row_answered (c := .retire) looped_takes rfl rfl ?_⟩
  show retireRule .host retireZero looped = _
  unfold retireRule
  rw [withPoint_ok looped_resolve, unlessHeld_none rfl]
  rfl

/-- Unlinking the head of the chain leaves the link of the last record to it. -/
theorem looped_unlink : looped.unlink 0 = (looped.setHead 0#8 (some 1)).setNext 0 none := by
  have hbucket : bucketOf (looped.pt 0).tag = 0#8 := by
    rw [looped_pt]
    exact bucketOf_append_self _
  have hhead : looped.head 0#8 = some 0 := by rw [looped_head, if_pos rfl]
  have hnext : (looped.pt 0).next = some 1 := by rw [looped_pt]; rfl
  unfold State.unlink
  simp only
  rw [hbucket, if_pos hhead, hnext]

theorem looped_retireEntry : (looped.retired 0).retireEntry 0 = looped.retired 0 := by
  refine if_neg ?_
  rw [State.retired_entryOf, looped_unlink]
  exact Bool.false_ne_true

theorem retired_keepsIndex_opened : (looped.retired 0).KeepsIndex opened :=
  State.retirePoint_keepsIndex looped_retireEntry

theorem looped_retired_pt (n : PointNo) :
    (looped.retired 0).pt n
      = if 0 = n then retiredRecord { looped.pt 0 with next := none } else looped.pt n := by
  rw [State.retired_pt, looped_unlink, State.modPt_pt, State.setNext_pt, State.setNext_pt, if_pos rfl,
    State.setHead_pt]
  split
  · rfl
  · rfl

theorem opened_next (n : PointNo) (hn : n ≠ 0) : (opened.pt n).next = some (n + 1) := by
  rw [retired_keepsIndex_opened.next, looped_retired_pt, if_neg hn.symm, looped_pt]
  rfl

theorem opened_tag (n : PointNo) : (opened.pt n).tag = loopTag n := by
  rw [retired_keepsIndex_opened.tag, State.retired_pt_same Point.tag (fun _ _ => rfl) rfl, looped_pt]
  rfl

theorem opened_head : opened.head 0#8 = some 1 := by
  rw [retired_keepsIndex_opened.head, State.retired_head, looped_unlink, State.setNext_head, State.setHead_head,
    if_pos rfl]

theorem opened_state : (opened.pt 0).state = .free := by
  rw [opened, State.retirePoint_state looped_retireEntry, looped_retired_pt, if_pos rfl, looped_pt]
  rfl

theorem opened_chain : opened.chain 0#8 = (List.range 512).map (loopStep 1) := by
  unfold State.chain
  rw [opened_head]
  refine chainFrom_of_counting fun k hk => opened_next _ fun h => ?_
  have hval := congrArg Fin.val h
  rw [loopStep_val] at hval
  have : (1 : PointNo).val = 1 := rfl
  have : (0 : PointNo).val = 0 := rfl
  omega

theorem zero_mem_opened_chain : (0 : PointNo) ∈ opened.chain 0#8 := by
  rw [opened_chain]
  exact mem_loopStep 1 0

/-- The retired record stays on the chain. -/
theorem opened_not_indexLaw : ¬ opened.IndexLaw := by
  rintro ⟨-, hchain, -⟩
  obtain ⟨hnamed, -⟩ := (hchain 0#8 0).1 zero_mem_opened_chain
  rw [opened_state] at hnamed
  cases hnamed

theorem opened_lookup : opened.lookup (loopTag 0) = some 0 := by
  rw [State.lookup, if_neg (loopTag_ne_zero 0), chainFind_eq_find?]
  have hbucket : bucketOf (loopTag 0) = 0#8 := bucketOf_append_self _
  rw [hbucket]
  refine find?_eq_some_of_unique zero_mem_opened_chain (by simp [opened_tag]) fun m _ hm => ?_
  rw [decide_eq_true_eq, opened_tag] at hm
  exact loopTag_injective hm

theorem step_of_pending {s : State} {c : Instr} (h : s.pending = []) : step { s with pending := [c] } = exec c s := by
  obtain ⟨⟩ := s
  obtain rfl := h
  rfl

/-- Refutes O56: the chain of `looped` goes round, which `State.IndexLaw` allows, and RETIRE of its head leaves the
retired record on it. -/
theorem not_everyStepKeepsTheIndexAndTheLists : ¬ Obligations.EveryStepKeepsTheIndexAndTheLists := by
  intro h
  obtain ⟨data, hexec⟩ := exec_retire_looped
  have hlists : ({ looped with pending := [.retire .host retireZero] } : State).ListLaw :=
    ⟨⟨Nat.zero_le _, .nil, nofun⟩, ⟨Nat.zero_le _, .nil, nofun⟩, Nat.zero_le _, .nil, nofun⟩
  have hindex := looped_indexLaw.of_keeps
    (t := { looped with pending := [.retire .host retireZero] }) (.of_pt rfl rfl) fun _ => rfl
  obtain ⟨hopened, -⟩ := h _ _ hindex hlists ((step_of_pending rfl).trans hexec)
  exact opened_not_indexLaw (State.IndexLaw.of_answered hopened)

/-- Refutes O18: the chain of `looped` goes round, and after RETIRE of its head the lookup still finds the retired
record. -/
theorem not_retireCleansUp : ¬ Obligations.RetireCleansUp := by
  intro h
  obtain ⟨data, hexec⟩ := exec_retire_looped
  obtain ⟨u, hu, -, -, -, hlookup, -⟩ := h .host retireZero looped 0 looped_takes (.inl rfl) rfl looped_resolve rfl
    looped_indexLaw
  have hsame := Host.Outcome.next.inj (hexec.symm.trans hu)
  have hfound : u.settle.lookup (loopTag 0) = some 0 := by
    rw [← (State.answered_keepsIndex u.settle _ _ _).lookup, ← hsame, (State.answered_keepsIndex ..).lookup]
    exact opened_lookup
  have htag : (looped.pt 0).tag = loopTag 0 := by rw [looped_pt]; rfl
  rw [u.settle_keeps.keepsIndex.lookup, ← htag, hlookup] at hfound
  cases hfound

end Sys2Proof.Machine

/-! SUPPORT. What one act of a step can make of one record, for the laws that speak of records one by one. -/

namespace Sys2Proof.Machine

/-- What an act of the step of row `c` can make of record `n`. -/
inductive State.RecordAct (c : Instr) (s : State) (n : PointNo) : Point → Prop
  | same : s.RecordAct c n (s.pt n)
  | point {x : Point} (h : s.PointAct c n x) : s.RecordAct c n x
  | condition (level : Level) (candidate : Option Level) {counter : Nat} (peak : Level) (unlisted : Bool)
      (hcounter : counter ≤ (s.pt n).confirmCounter ∨ counter ≤ (s.pt n).active.policy.confirm) :
      s.RecordAct c n { s.pt n with
        level := level, candidate := candidate, confirmCounter := counter, peak := peak, unlisted := unlisted }
  | dispatched (i : PortNo) : s.RecordAct c n { s.pt n with inFlight := some i }
  | ended : s.RecordAct c n { s.pt n with
      inFlight := none, state := if (s.pt n).state = .retiring then .free else (s.pt n).state }
  | defined {p : CmdPort} {ps : List Byte} (hc : c = .define p ps) (hfree : (s.pt n).state = .free) (t : Tag)
      (next : Option PointNo) : s.RecordAct c n { definedRecord (s.pt n) t with next := next }
  | relinked {p : CmdPort} {ps : List Byte} (hc : c = .retire p ps) (next : Option PointNo) :
      s.RecordAct c n { s.pt n with next := next }
  | retired {p : CmdPort} {ps : List Byte} (hc : c = .retire p ps) (next : Option PointNo) :
      s.RecordAct c n { retiredRecord (s.pt n) with next := next }
  | softReset {p : CmdPort} {ps : List Byte} (hc : c = .softReset p ps) : s.RecordAct c n (s.pt n).softReset
  | initial (hc : (∃ b, c = .powerOn b) ∨ ∃ e, c = .resetN e) : s.RecordAct c n Point.initial

section

variable {s t : State} {c : Instr} {n : PointNo}

theorem State.RecordAct.of_pt (n : PointNo) (h : t.pt n = s.pt n) : s.RecordAct c n (t.pt n) := h ▸ .same

theorem State.unlink_pt (s : State) (n m : PointNo) :
    (s.unlink n).pt m = { s.pt m with next := ((s.unlink n).pt m).next } := by
  have h := s.unlink_pt_same (fun x => { x with next := none }) (fun _ _ => rfl) n m
  calc (s.unlink n).pt m
      = { ({ (s.unlink n).pt m with next := none } : Point) with next := ((s.unlink n).pt m).next } := rfl
    _ = _ := by rw [h]

/-- What an act makes of each record. -/
theorem Act.recordAct (h : Act c s t) (n : PointNo) : s.RecordAct c n (t.pt n) := by
  cases h with
  | outside | run | holds | changed | scan | marked | port | cancelAll | quiet | waking | resetFall => exact .same
  | @record m x h =>
    rw [State.setPt_pt]
    split
    · subst_vars; exact .point h
    · exact .same
  | conditions h hcounter =>
    rw [h.record n]
    exact .condition _ _ _ _ (hcounter n)
  | @dispatched o m hm he =>
    have hpt : (s.dispatch o m).pt n
        = if m = n then { s.pt m with inFlight := some (s.pt m).active.route.port } else s.pt n :=
      State.modPt_pt (s.resolveAtCursor o .inFlight) m n fun x =>
        { x with inFlight := some (s.pt m).active.route.port }
    rw [hpt]
    split
    · subst_vars; exact .dispatched _
    · exact .same
  | withdrawn o => exact .of_pt n (by rw [State.withdraw_pt])
  | aborted h => exact .same
  | @ended i r x h hr =>
    have hpt : ((s.setPort i x).endRecord r.point).pt n
        = if r.point = n then { s.pt r.point with
            inFlight := none
            state := if (s.pt r.point).state = .retiring then .free else (s.pt r.point).state } else s.pt n :=
      State.modPt_pt ..
    rw [hpt]
    split
    · subst_vars; exact .ended
    · exact .same
  | @defined p ps m tag hc ht hnew hfree =>
    have hpt : ((s.setPt m (definedRecord (s.pt m) tag)).link m tag).pt n
        = if m = n then { definedRecord (s.pt m) tag with
            next := (s.setPt m (definedRecord (s.pt m) tag)).head (bucketOf tag) } else s.pt n := by
      refine (State.setNext_pt ..).trans ?_
      rw [State.setPt_pt, if_pos rfl]
      split
      · rfl
      · rw [State.setPt_pt, if_neg ‹_›]
    rw [hpt]
    split
    · rename_i hmn; subst hmn; exact .defined hc hfree ..
    · exact .same
  | @retired p ps m hc hm =>
    rw [State.retired_pt, State.modPt_pt, s.unlink_pt m m, s.unlink_pt m n]
    split
    · rename_i hmn; subst hmn; exact .retired hc _
    · exact .relinked hc _
  | softReset hc => rw [State.softReset_pt]; exact .softReset hc
  | initial hc => rw [State.initial_pt]; exact .initial hc

end

end Sys2Proof.Machine

/-! SUPPORT. Identity, state, profile and value of a record: what each step leaves of them. -/

namespace Sys2Proof.Machine

/-- From `x` to `y` a record keeps tag and revision, its state but for the end of RETIRING, and its profiles but for a
promotion (R1, R2, R9, R43). -/
structure Point.KeepsIdentity (x y : Point) : Prop where
  tag : y.tag = x.tag
  revision : y.revision = x.revision
  state : y.state = x.state ∨ x.state = .retiring ∧ y.state = .free
  active : y.active = x.active ∨ x.staged = some y.active ∧ y.staged = none
  staged : y.staged = x.staged ∨ y.staged = none

/-- From `x` to `y` a record keeps its raw code and its value (R6). -/
structure Point.KeepsValue (x y : Point) : Prop where
  raw : y.raw = x.raw
  value : y.value = x.value

section

variable {x y z : Point} {s : State} {c : Instr} {n : PointNo}

theorem Point.KeepsIdentity.refl (x : Point) : x.KeepsIdentity x := ⟨rfl, rfl, .inl rfl, .inl rfl, .inl rfl⟩

theorem Point.KeepsIdentity.trans (h : x.KeepsIdentity y) (k : y.KeepsIdentity z) : x.KeepsIdentity z where
  tag := k.tag.trans h.tag
  revision := k.revision.trans h.revision
  state := by
    rcases h.state with hy | ⟨hx, hy⟩
    · rw [← hy]; exact k.state
    · rcases k.state with hz | ⟨hz, -⟩
      · exact .inr ⟨hx, hz.trans hy⟩
      · exact nomatch hy.symm.trans hz
  active := by
    rcases k.active with hz | ⟨hz, hnone⟩
    · rw [hz]
      refine h.active.imp_right fun ⟨hx, hy⟩ => ⟨hx, ?_⟩
      rcases k.staged with hs | hs
      · exact hs.trans hy
      · exact hs
    · rcases h.staged with hy | hy
      · exact .inr ⟨hy ▸ hz, hnone⟩
      · exact nomatch hy.symm.trans hz
  staged := by
    rcases k.staged with hz | hz
    · rw [hz]; exact h.staged
    · exact .inr hz

theorem Point.KeepsValue.trans (h : x.KeepsValue y) (k : y.KeepsValue z) : x.KeepsValue z :=
  ⟨k.raw.trans h.raw, k.value.trans h.value⟩

theorem Point.aged_keepsIdentity (x : Point) : x.KeepsIdentity x.aged := by
  unfold Point.aged
  split
  · exact ⟨rfl, rfl, .inl rfl, .inl rfl, .inl rfl⟩
  · exact .refl x

theorem Point.promoted_keepsIdentity (x : Point) : x.KeepsIdentity x.promoted := by
  unfold Point.promoted
  split
  · exact ⟨rfl, rfl, .inl rfl, .inr ⟨‹_›, rfl⟩, .inr rfl⟩
  · exact .refl x

theorem Point.aged_keepsValue (x : Point) : x.KeepsValue x.aged := by
  unfold Point.aged
  split <;> exact ⟨rfl, rfl⟩

theorem Point.promoted_keepsValue (x : Point) : x.KeepsValue x.promoted := by
  unfold Point.promoted
  split <;> exact ⟨rfl, rfl⟩

theorem graded_keepsIdentity (code : BitVec 16) (range : RangeFlag) (x : Point) :
    x.KeepsIdentity (graded code range x) := by
  cases range <;> exact ⟨rfl, rfl, .inl rfl, .inl rfl, .inl rfl⟩

theorem Point.softReset_keepsIdentity (x : Point) : x.KeepsIdentity x.softReset := by
  have hstate : x.softReset.state = x.state ∨ x.state = .retiring ∧ x.softReset.state = .free := by
    rw [Point.softReset_state]
    by_cases h : x.state = .retiring
    · exact .inr ⟨h, if_pos h⟩
    · exact .inl (if_neg h)
  refine ⟨?_, ?_, hstate, .inl ?_, .inr x.softReset_staged⟩ <;>
  · unfold Point.softReset
    simp only
    split <;> rfl

theorem Point.softReset_keepsValue (x : Point) : x.KeepsValue x.softReset := by
  unfold Point.softReset
  simp only
  split <;> exact ⟨rfl, rfl⟩

/-- Only DEFINE, EDIT, the commands of the life cycle and a reset move the identity of a record (R2). -/
theorem State.RecordAct.keepsIdentity (h : s.RecordAct c n x) (hpower : ∀ b, c ≠ .powerOn b)
    (hreset : ∀ e, c ≠ .resetN e) (hdefine : ∀ p ps, c ≠ .define p ps)
    (hother : ∀ p ps, c ≠ .edit p ps ∧ c ≠ .activate p ps ∧ c ≠ .park p ps ∧ c ≠ .unpark p ps ∧ c ≠ .retire p ps) :
    (s.pt n).KeepsIdentity x := by
  cases h with
  | same => exact .refl _
  | point h =>
    cases h with
    | graded code range => exact graded_keepsIdentity ..
    | faulted => exact ⟨rfl, rfl, .inl rfl, .inl rfl, .inl rfl⟩
    | aged => exact Point.aged_keepsIdentity _
    | promoted => exact Point.promoted_keepsIdentity _
    | @edited p ps _ hc | @staged p ps _ hc =>
      obtain ⟨hne, -⟩ := hother p ps
      exact absurd hc hne
    | @activated p ps hc =>
      obtain ⟨-, hne, -⟩ := hother p ps
      exact absurd hc hne
    | @parked p ps hc =>
      obtain ⟨-, -, hne, -⟩ := hother p ps
      exact absurd hc hne
    | @unparked p ps hc =>
      obtain ⟨-, -, -, hne, -⟩ := hother p ps
      exact absurd hc hne
  | condition | dispatched => exact ⟨rfl, rfl, .inl rfl, .inl rfl, .inl rfl⟩
  | ended =>
    refine ⟨rfl, rfl, ?_, .inl rfl, .inl rfl⟩
    by_cases hs : (s.pt n).state = .retiring
    · exact .inr ⟨hs, if_pos hs⟩
    · exact .inl (if_neg hs)
  | defined hc => exact absurd hc (hdefine _ _)
  | @relinked p ps hc | @retired p ps hc =>
    obtain ⟨-, -, -, -, hne⟩ := hother p ps
    exact absurd hc hne
  | softReset hc => exact Point.softReset_keepsIdentity _
  | initial hc =>
    rcases hc with ⟨b, hc⟩ | ⟨e, hc⟩
    · exact absurd hc (hpower b)
    · exact absurd hc (hreset e)

/-- Only a message of a converter, DEFINE and a reset move raw code and value (R6). -/
theorem State.RecordAct.keepsValue (h : s.RecordAct c n x) (hpower : ∀ b, c ≠ .powerOn b)
    (hreset : ∀ e, c ≠ .resetN e) (hdefine : ∀ p ps, c ≠ .define p ps) (hmeasures : measures c = false) :
    (s.pt n).KeepsValue x := by
  cases h with
  | point h =>
    cases h with
    | graded code range hc => exact nomatch hc.symm.trans hmeasures
    | aged => exact Point.aged_keepsValue _
    | promoted => exact Point.promoted_keepsValue _
    | faulted | edited | staged | activated | parked | unparked => exact ⟨rfl, rfl⟩
  | same | condition | dispatched | ended | relinked | retired => exact ⟨rfl, rfl⟩
  | defined hc => exact absurd hc (hdefine _ _)
  | softReset hc => exact Point.softReset_keepsValue _
  | initial hc =>
    rcases hc with ⟨b, hc⟩ | ⟨e, hc⟩
    · exact absurd hc (hpower b)
    · exact absurd hc (hreset e)

theorem measures_eq_false (hresult : ∀ i seq code range, c ≠ .result i seq code range)
    (hdamaged : ∀ i burst, c ≠ .damagedMessage i burst) : measures c = false := by
  unfold measures
  split
  · exact (hresult _ _ _ _ rfl).elim
  · exact (hdamaged _ _ rfl).elim
  · rfl

end

/-- Settles O60: each act of a step but those of the commands and rows named keeps identity, state, profile and value of
every record. -/
theorem onlyTheirStepsMoveIdentityAndValue : Obligations.OnlyTheirStepsMoveIdentityAndValue := by
  intro c s t n ht hpower hreset hdefine
  have hacts := exec_acts ht
  refine ⟨fun hother => ?_, fun hresult hdamaged => ?_⟩
  · have hkeeps : (s.pt n).KeepsIdentity (t.pt n) :=
      hacts.keep (P := fun u => (s.pt n).KeepsIdentity (u.pt n))
        (fun h hu => hu.trans ((h.recordAct n).keepsIdentity hpower hreset hdefine hother)) (.refl _)
    exact ⟨hkeeps.tag, hkeeps.revision, hkeeps.state, hkeeps.active.imp_right And.left⟩
  · have hmeasures := measures_eq_false hresult hdamaged
    have hkeeps : (s.pt n).KeepsValue (t.pt n) :=
      hacts.keep (P := fun u => (s.pt n).KeepsValue (u.pt n))
        (fun h hu => hu.trans ((h.recordAct n).keepsValue hpower hreset hdefine hmeasures)) ⟨rfl, rfl⟩
    exact ⟨hkeeps.raw, hkeeps.value⟩

end Sys2Proof.Machine

/-! SUPPORT. Staged profiles, holds and change sets, kept to the points they belong to by every act of a step. -/

namespace Sys2Proof.Machine

/-- The commands that name a point to hold it or to stage a profile for it (R29, R40, R147). -/
def accesses : Instr → Bool
  | .hold _ _ | .edit _ _ => true
  | _ => false

/-- The laws of access that every act of row `c` keeps together: those of O58, DRAFT points UNSCANNED, and for a row
that names a point a sound index. -/
structure State.AccessLaws (c : Instr) (s : State) : Prop where
  staged : s.StagedLaw
  holds : s.HoldLaw
  changes : s.ChangeLaw
  draft : ∀ n, (s.pt n).state = .draft → (s.pt n).quality = .unscanned
  index : accesses c = true → s.IndexLaw

section

variable {s t : State} {c : Instr} {n : PointNo} {x : Point}

theorem PointState.conditioned_of_named {st : PointState} (h : st.named = true) (hd : st ≠ .draft) :
    st.conditioned = true := by
  cases st <;> simp_all [PointState.conditioned, PointState.named]

/-- A selector block names named points alone (R29, R30). -/
theorem State.Named.named (h : s.Named n) (hs : s.IndexLaw) : (s.pt n).state.named = true := by
  obtain ⟨name, h⟩ := h
  cases name with
  | none => cases h
  | some name =>
    cases name with
    | number k => exact (State.resolve_number_eq_ok.1 h).2
    | tag t => exact ((State.resolve_tag_eq_ok hs.tagLaw).1 h).1

/-! ### Records -/

theorem Point.aged_draft (hx : x.state = .draft → x.quality = .unscanned) :
    x.aged.state = .draft → x.aged.quality = .unscanned := by
  unfold Point.aged
  split
  · rename_i h
    exact fun hd => nomatch h.symm.trans hd
  · exact hx

theorem Point.withActive_draft (hx : x.state = .draft → x.quality = .unscanned) (pr : Profile) :
    (x.withActive pr).state = .draft → (x.withActive pr).quality = .unscanned := by
  intro hd
  show (if pr.route = x.active.route then x.quality else .unscanned) = _
  split
  · exact hx hd
  · rfl

theorem Point.promoted_draft (hx : x.state = .draft → x.quality = .unscanned) :
    x.promoted.state = .draft → x.promoted.quality = .unscanned := by
  unfold Point.promoted
  split
  · exact Point.withActive_draft (x := { x with staged := none }) hx _
  · exact hx

/-- A DRAFT point stays UNSCANNED (R8, R44). -/
theorem State.RecordAct.draft (h : s.RecordAct c n x)
    (hs : (s.pt n).state = .draft → (s.pt n).quality = .unscanned) : x.state = .draft → x.quality = .unscanned := by
  cases h with
  | same | condition | dispatched | relinked => exact hs
  | point h =>
    cases h with
    | graded _ _ _ hlive =>
      rw [graded_state]
      exact fun hd => nomatch hlive.symm.trans hd
    | faulted hlive => exact fun hd => nomatch hlive.symm.trans hd
    | aged => exact Point.aged_draft hs
    | promoted => exact Point.promoted_draft hs
    | edited => exact Point.withActive_draft hs _
    | staged => exact hs
    | activated | parked | unparked => nofun
  | ended =>
    intro hd
    simp only at hd
    split at hd
    · cases hd
    · exact hs hd
  | defined | initial => exact fun _ => rfl
  | retired =>
    intro hd
    simp only [retiredRecord] at hd
    split at hd <;> cases hd
  | softReset =>
    intro hd
    rw [Point.softReset_state] at hd
    split at hd
    · cases hd
    · rw [Point.softReset_of_named (by rw [hd]; rfl)]

/-- A staged profile is on a LIVE or PARKED point, where the selector of an EDIT resolves to named points alone
(R5, R38). -/
theorem State.RecordAct.staged (h : s.RecordAct c n x)
    (hs : (s.pt n).staged ≠ none → (s.pt n).state.conditioned = true)
    (hnamed : accesses c = true → s.Named n → (s.pt n).state.named = true) :
    x.staged ≠ none → x.state.conditioned = true := by
  cases h with
  | same | condition | dispatched | relinked => exact hs
  | point h =>
    cases h with
    | graded code range =>
      rw [graded_state]
      cases range <;> exact hs
    | faulted | edited => exact hs
    | aged =>
      rw [Point.aged_state, Point.aged_staged]
      exact hs
    | promoted => exact fun hp => absurd (Point.promoted_staged _) hp
    | staged hc hg ho hn hdraft => exact fun _ => PointState.conditioned_of_named (hnamed (by rw [hc]; rfl) hn) hdraft
    | activated | parked | unparked => exact fun _ => rfl
  | ended =>
    intro hp
    have hst := hs hp
    simp only
    split
    · rename_i hr
      rw [hr] at hst
      cases hst
    · exact hst
  | defined | initial | retired => exact fun h => absurd rfl h
  | softReset => exact fun hp => absurd (Point.softReset_staged _) hp

/-! ### Points that stay, and points that go -/

/-- No hold and no change set names point `n`. -/
structure State.Free (s : State) (n : PointNo) : Prop where
  holds : ∀ h ∈ s.holds, h.point ≠ n
  changed : ∀ p, s.isChanged p n = false

/-- From `s` to `t` a named point stays named, and a LIVE or PARKED one LIVE or PARKED. -/
structure State.Stays (s t : State) (n : PointNo) : Prop where
  named : (s.pt n).state.named = true → (t.pt n).state.named = true
  conditioned : (s.pt n).state.conditioned = true → (t.pt n).state.conditioned = true

theorem State.Stays.of_state (h : (t.pt n).state = (s.pt n).state) : s.Stays t n :=
  ⟨fun hn => by rwa [h], fun hc => by rwa [h]⟩

/-- A point stays as it is named, or leaves the hold table and the change sets (R17, R18). -/
theorem Act.stays (h : Act c s t) (n : PointNo) : s.Stays t n ∨ t.Free n := by
  cases h with
  | outside | run | holds | changed | scan | marked | port | aborted | cancelAll | quiet | waking | resetFall =>
    exact .inl (.of_state rfl)
  | @record m x h =>
    refine .inl ?_
    by_cases hmn : m = n
    · subst hmn
      have hpt : (s.setPt m x).pt m = x := State.setPt_pt_self ..
      rcases h.state with hx | ⟨-, hx⟩
      · exact .of_state (by rw [hpt, hx])
      · exact ⟨fun _ => by rw [hpt]; exact PointState.named_of_conditioned hx, fun _ => by rw [hpt]; exact hx⟩
    · exact .of_state (by rw [State.setPt_pt, if_neg hmn])
  | conditions h => exact .inl (.of_state (by rw [h.record n]))
  | @dispatched o m hm he =>
    exact .inl (.of_state (State.modPt_pt_same (s := s.resolveAtCursor o .inFlight) Point.state
      (f := fun x => { x with inFlight := some (s.pt m).active.route.port }) rfl n))
  | withdrawn o => exact .inl (.of_state (by rw [State.withdraw_pt]))
  | @ended i r x h hr =>
    refine .inl ?_
    have hpt : (((s.setPort i x).endRecord r.point).pt n).state
        = if r.point = n ∧ (s.pt n).state = .retiring then .free else (s.pt n).state := by
      rw [State.endRecord, State.modPt_pt]
      by_cases hrn : r.point = n <;> simp [hrn]
    constructor <;>
    · intro hn
      rw [hpt]
      split
      · rename_i hr
        rw [hr.2] at hn
        cases hn
      · exact hn
  | @defined p ps m tag hc ht hnew hfree =>
    refine .inl ?_
    have hstate : (((s.setPt m (definedRecord (s.pt m) tag)).link m tag).pt n).state
        = if m = n then .draft else (s.pt n).state := by
      refine (State.setNext_pt_same (s := s.setPt m _) Point.state (fun _ _ => rfl) ..).trans ?_
      rw [State.setPt_pt]
      split <;> rfl
    constructor <;>
    · intro hn
      rw [hstate]
      split
      · rename_i hmn
        rw [← hmn, hfree] at hn
        cases hn
      · exact hn
  | @retired p ps m hc hm =>
    by_cases hmn : m = n
    · subst hmn
      refine .inr ⟨fun h hh => ?_, fun p => ?_⟩
      · exact of_decide_eq_true (List.mem_filter.1 hh).2
      · exact (State.unmark_isChanged ..).trans (if_pos rfl)
    · refine .inl (.of_state ?_)
      rw [State.retired_pt, State.modPt_pt, if_neg hmn]
      exact State.unlink_pt_same Point.state (fun _ _ => rfl) ..
  | @softReset p ps hc =>
    have hstate : ((s.softReset p).pt n).state = if (s.pt n).state = .retiring then .free else (s.pt n).state := by
      rw [State.softReset_pt, Point.softReset_state]
    refine .inl ?_
    constructor <;>
    · intro hn
      rw [hstate]
      split
      · rename_i hr
        rw [hr] at hn
        cases hn
      · exact hn
  | initial =>
    refine .inr ⟨nofun, fun p => ?_⟩
    exact State.reset_isChanged p n

/-! ### The hold table -/

theorem State.HoldsAct.same (s : State) (c : Instr) : s.HoldsAct c s.holds := by
  have h : s.HoldsAct c (s.holds.filter fun _ => true) := .filtered _
  rwa [List.filter_true] at h

theorem State.HoldsAct.empty (s : State) (c : Instr) : s.HoldsAct c [] := by
  have h : s.HoldsAct c (s.holds.filter fun _ => false) := .filtered _
  rwa [List.filter_false] at h

theorem State.unlink_holds (s : State) (n : PointNo) : (s.unlink n).holds = s.holds := by
  unfold State.unlink
  simp only
  split
  · rfl
  · split <;> rfl

theorem State.unlink_isChanged (s : State) (n : PointNo) : (s.unlink n).isChanged = s.isChanged := by
  unfold State.unlink
  simp only
  split
  · rfl
  · split <;> rfl

/-- What every act makes of the hold table. -/
theorem Act.holdsAct (h : Act c s t) : s.HoldsAct c t.holds := by
  cases h with
  | outside | run | changed | scan | record | marked | port | dispatched | aborted | ended | cancelAll | quiet | waking
    | defined | resetFall => exact .same s c
  | holds h => exact h
  | conditions h => rw [h.frame]; exact .same s c
  | withdrawn => rw [State.withdraw_frame]; exact .same s c
  | @retired p ps n =>
    have hholds : (s.retired n).holds = holdsWithout s.holds n := congrArg (holdsWithout · n) (s.unlink_holds n)
    rw [hholds]
    exact .filtered _
  | softReset | initial => exact .empty s c

/-- A hold is on a point that had one, or on the point that a HOLD names (R147). -/
theorem State.HoldsAct.point {hs : List HoldRecord} (h : s.HoldsAct c hs) {r : HoldRecord} (hr : r ∈ hs) :
    (∃ r' ∈ s.holds, r'.point = r.point) ∨ accesses c = true ∧ s.Named r.point := by
  cases h with
  | renewed n =>
    obtain ⟨r', hr', rfl⟩ := List.mem_map.1 hr
    refine .inl ⟨r', hr', ?_⟩
    split <;> rfl
  | created hc _ _ hn =>
    rcases List.mem_append.1 hr with hr | hr
    · exact .inl ⟨r, hr, rfl⟩
    · obtain rfl := List.mem_singleton.1 hr
      exact .inr ⟨by rw [hc]; rfl, hn⟩
  | filtered q => exact .inl ⟨r, (List.mem_filter.1 hr).1, rfl⟩

theorem renewedHolds_points (hs : List HoldRecord) (n : PointNo) (left : Nat) :
    (renewedHolds hs n left).map HoldRecord.point = hs.map HoldRecord.point := by
  unfold renewedHolds
  rw [List.map_map]
  refine List.map_congr_left fun h _ => ?_
  show (if h.point = n then { h with left := left } else h).point = h.point
  split <;> rfl

/-- At most 8 holds, one a point (R145). -/
theorem State.HoldsAct.table {hs : List HoldRecord} (h : s.HoldsAct c hs)
    (hlen : s.holds.length ≤ Config.holdCapacity) (hnodup : (s.holds.map HoldRecord.point).Nodup) :
    hs.length ≤ Config.holdCapacity ∧ (hs.map HoldRecord.point).Nodup := by
  cases h with
  | renewed n =>
    rw [renewedHolds_points]
    exact ⟨by rwa [renewedHolds, List.length_map], hnodup⟩
  | @created p ps n time hc hlow hhigh hn hnew hroom =>
    refine ⟨by rw [List.length_append]; exact hroom, ?_⟩
    rw [List.map_append]
    refine hnodup.append (List.nodup_singleton _) fun m hm hm' => ?_
    obtain ⟨r, hr, rfl⟩ := List.mem_map.1 hm
    exact List.find?_eq_none.1 hnew r hr (decide_eq_true (List.mem_singleton.1 hm'))
  | filtered q =>
    exact ⟨(List.length_filter_le ..).trans hlen, hnodup.sublist (List.filter_sublist.map _)⟩

/-! ### The change sets -/

/-- A member of a change set was one, or is the point that a change marks (R155, R156). -/
theorem Act.isChanged (h : Act c s t) {p : CmdPort} (hp : t.isChanged p n = true) :
    s.isChanged p n = true ∨ s.Changes c n := by
  cases h with
  | outside | run | holds | scan | record | port | dispatched | aborted | ended | cancelAll | quiet | waking | defined
    | resetFall => exact .inl hp
  | changed h => exact .inl (h p n hp)
  | conditions h =>
    rw [h.frame] at hp
    exact .inl hp
  | @marked m h =>
    rw [State.mark_isChanged] at hp
    split at hp
    · subst_vars; exact .inr h
    · exact .inl hp
  | withdrawn =>
    rw [State.withdraw_frame] at hp
    exact .inl hp
  | @retired q ps m =>
    refine .inl ?_
    have hchanged : (s.retired m).isChanged p n = if m = n then false else (s.unlink m).isChanged p n :=
      State.unmark_isChanged ..
    rw [hchanged, State.unlink_isChanged] at hp
    split at hp
    · cases hp
    · exact hp
  | @softReset q ps =>
    rw [State.isChanged, State.softReset_changed, ChangeSet.initial_get] at hp
    cases hp
  | initial =>
    have hnone : State.reset.isChanged p n = true := hp
    rw [State.reset_isChanged] at hnone
    cases hnone

/-! ### The index, for a row that names a point -/

theorem State.PointAct.keepsLink (h : s.PointAct c n x) : x.tag = (s.pt n).tag ∧ x.next = (s.pt n).next := by
  cases h with
  | graded code range => cases range <;> exact ⟨rfl, rfl⟩
  | faulted | edited | staged | activated | parked | unparked => exact ⟨rfl, rfl⟩
  | aged => unfold Point.aged; split <;> exact ⟨rfl, rfl⟩
  | promoted => unfold Point.promoted; split <;> exact ⟨rfl, rfl⟩

/-- HOLD and EDIT leave tags and links. -/
theorem State.RecordAct.keepsLink (h : s.RecordAct c n x) (hc : accesses c = true) :
    x.tag = (s.pt n).tag ∧ x.next = (s.pt n).next := by
  cases h with
  | same | condition | dispatched | ended => exact ⟨rfl, rfl⟩
  | point h => exact h.keepsLink
  | defined h | relinked h | retired h | softReset h => exact nomatch hc.symm.trans (congrArg accesses h)
  | initial h => rcases h with ⟨_, h⟩ | ⟨_, h⟩ <;> exact nomatch hc.symm.trans (congrArg accesses h)

theorem State.RecordAct.keepsNamed (h : s.RecordAct c n x) (hc : accesses c = true) :
    x.state.named = (s.pt n).state.named := by
  cases h with
  | same | condition | dispatched => rfl
  | ended =>
    simp only
    split
    · rename_i hr
      rw [hr]
      rfl
    · rfl
  | point h =>
    rcases h.state with hx | ⟨hn, hx⟩
    · rw [hx]
    · rw [hn, PointState.named_of_conditioned hx]
  | defined h | relinked h | retired h | softReset h => exact nomatch hc.symm.trans (congrArg accesses h)
  | initial h => rcases h with ⟨_, h⟩ | ⟨_, h⟩ <;> exact nomatch hc.symm.trans (congrArg accesses h)

theorem Act.keepsHeads (h : Act c s t) (hc : accesses c = true) : t.heads = s.heads := by
  cases h with
  | outside | run | holds | changed | scan | record | marked | port | dispatched | aborted | ended | cancelAll | quiet
    | waking | resetFall => rfl
  | conditions h => rw [h.frame]
  | withdrawn => rw [State.withdraw_frame]
  | defined h | retired h | softReset h => exact nomatch hc.symm.trans (congrArg accesses h)
  | initial h => rcases h with ⟨_, h⟩ | ⟨_, h⟩ <;> exact nomatch hc.symm.trans (congrArg accesses h)

theorem Act.keepsIndexLaw (h : Act c s t) (hc : accesses c = true) (hs : s.IndexLaw) : t.IndexLaw :=
  hs.of_keeps
    ⟨h.keepsHeads hc, fun n => ((h.recordAct n).keepsLink hc).1, fun n => ((h.recordAct n).keepsLink hc).2⟩
    fun n => (h.recordAct n).keepsNamed hc

/-! ### The laws of access -/

theorem State.AccessLaws.named (hs : s.AccessLaws c) (hc : accesses c = true) (hn : s.Named n) :
    (s.pt n).state.named = true := State.Named.named hn (hs.index hc)

theorem State.AccessLaws.conditioned (hs : s.AccessLaws c) (h : s.Changes c n) :
    (s.pt n).state.conditioned = true := by
  rcases h with h | h | ⟨⟨p, ps, hc⟩, hn, hq⟩
  · exact h
  · exact hs.staged n h
  · exact PointState.conditioned_of_named (hs.named (by rw [hc]; rfl) hn) fun hd => hq (hs.draft n hd)

/-- Every act keeps the laws of access. -/
theorem State.AccessLaws.act (hs : s.AccessLaws c) (h : Act c s t) : t.AccessLaws c where
  staged n := (h.recordAct n).staged (hs.staged n) hs.named
  holds := by
    obtain ⟨hlen, hnodup, hnamed⟩ := hs.holds
    obtain ⟨hlen', hnodup'⟩ := h.holdsAct.table hlen hnodup
    refine ⟨hlen', hnodup', fun r hr => ?_⟩
    rcases h.stays r.point with hstays | hfree
    · refine hstays.named ?_
      rcases h.holdsAct.point hr with ⟨r', hr', hpoint⟩ | ⟨hc, hn⟩
      · exact hpoint ▸ hnamed r' hr'
      · exact hs.named hc hn
    · exact absurd rfl (hfree.holds r hr)
  changes p n hp := by
    rcases h.stays n with hstays | hfree
    · exact hstays.conditioned ((h.isChanged hp).elim (hs.changes p n) hs.conditioned)
    · exact nomatch hp.symm.trans (hfree.changed p)
  draft n := (h.recordAct n).draft (hs.draft n)
  index hc := h.keepsIndexLaw hc (hs.index hc)

/-! ### A tick -/

theorem State.idle_isChanged (s : State) : s.idle.isChanged = s.isChanged := by
  unfold State.idle
  split <;> rfl

theorem State.idle_holds (s : State) : s.idle.holds = s.holds ∨ s.idle.holds = s.holds.map HoldRecord.elapse := by
  unfold State.idle
  split
  · exact .inl rfl
  · exact .inr rfl

theorem State.HoldLaw.idle (hs : s.HoldLaw) : s.idle.HoldLaw := by
  obtain ⟨hlen, hnodup, hnamed⟩ := hs
  have hpoints : s.idle.holds.map HoldRecord.point = s.holds.map HoldRecord.point := by
    rcases s.idle_holds with h | h
    · rw [h]
    · rw [h, List.map_map]
      rfl
  refine ⟨?_, hpoints ▸ hnodup, fun r hr => ?_⟩
  · have hlength := congrArg List.length hpoints
    rw [List.length_map, List.length_map] at hlength
    rwa [hlength]
  · obtain ⟨r', hr', hpoint⟩ := List.mem_map.1 (hpoints ▸ List.mem_map_of_mem (f := HoldRecord.point) hr)
    rw [State.idle_pt, ← hpoint]
    exact hnamed r' hr'

end

/-- Settles O58: each act of a step keeps the laws of access, and a tick takes ticks off the holds alone. -/
theorem everyStepKeepsTheAccessLaws : Obligations.EveryStepKeepsTheAccessLaws := by
  intro s t hindex hcalm hstaged hholds hchange ht
  obtain ⟨hdraft, -⟩ := hcalm
  unfold step at ht
  split at ht
  · cases ht
    exact ⟨fun n => by rw [State.idle_pt]; exact hstaged n, State.HoldLaw.idle hholds,
      fun p n => by rw [State.idle_isChanged, State.idle_pt]; exact hchange p n⟩
  · rename_i c rest _
    have hlaws : ({ s with pending := rest } : State).AccessLaws c :=
      ⟨hstaged, hholds, hchange, fun n h => (hdraft n h).1, fun _ => hindex.of_keeps (.of_pt rfl rfl) fun _ => rfl⟩
    have ht := (exec_acts ht).keep (P := State.AccessLaws c) (fun h hs => hs.act h) hlaws
    exact ⟨ht.staged, ht.holds, ht.changes⟩

end Sys2Proof.Machine

/-! SUPPORT. The ranges of profiles, value parts, counts and timers, kept by every act of a step. -/

namespace Sys2Proof.Machine

/-! ### Records (R3, R4, R6, R8) -/

/-- A record in range: both profiles legal, value, age and confirm counter within theirs. -/
structure Point.InRange (x : Point) : Prop where
  active : x.active.legal
  staged : ∀ pr, x.staged = some pr → pr.legal
  value : inEngRange x.value
  age : x.age ≤ 255
  counter : x.confirmCounter ≤ 8

section

variable {s t : State} {c : Instr} {n : PointNo} {x : Point} {pr : Profile}

theorem saturate_inEngRange (v : Int) : inEngRange (saturate v) := by
  unfold saturate
  have hmin : Config.engMin = -8388608 := rfl
  have hmax : Config.engMax = 8388607 := rfl
  constructor <;> omega

/-- Smoothing stays between the old value and the sample (R107). -/
theorem smoothed_inEngRange {sc : Scale} {seeded : Bool} {old v : Int} (hold : inEngRange old) (hv : inEngRange v) :
    inEngRange (smoothed sc seeded old v) := by
  by_cases h : sc.weight = 0 ∨ seeded = false
  · rwa [smoothed_direct h]
  · obtain ⟨hw, hseeded⟩ := not_or.1 h
    obtain ⟨-, hsmooth, -⟩ := smoothingApproachesTheSample sc seeded old v
    obtain ⟨-, hup, hdown, -⟩ := hsmooth hw (by simpa using hseeded)
    unfold inEngRange at hold hv ⊢
    rcases le_total old v with hle | hle
    · have := hup hle
      omega
    · have := hdown hle
      omega

theorem graded_inRange (hx : x.InRange) (code : BitVec 16) (range : RangeFlag) : (graded code range x).InRange := by
  cases range with
  | inRange =>
    exact ⟨hx.active, hx.staged, smoothed_inEngRange hx.value (saturate_inEngRange _), Nat.zero_le _, hx.counter⟩
  | _ => exact ⟨hx.active, hx.staged, hx.value, hx.age, hx.counter⟩

theorem Point.aged_inRange (hx : x.InRange) : x.aged.InRange := by
  unfold Point.aged
  split
  · exact ⟨hx.active, hx.staged, hx.value, Nat.min_le_left .., hx.counter⟩
  · exact hx

theorem Point.withActive_inRange (hx : x.InRange) (hpr : pr.legal) : (x.withActive pr).InRange := by
  refine ⟨hpr, hx.staged, hx.value, hx.age, ?_⟩
  show (if pr.route = x.active.route then x.confirmCounter else 0) ≤ 8
  split
  · exact hx.counter
  · exact Nat.zero_le _

theorem Point.promoted_inRange (hx : x.InRange) : x.promoted.InRange := by
  unfold Point.promoted
  split
  · rename_i pr hpr
    exact Point.withActive_inRange (x := { x with staged := none })
      ⟨hx.active, nofun, hx.value, hx.age, hx.counter⟩ (hx.staged pr hpr)
  · exact hx

theorem Point.softReset_inRange (hx : x.InRange) : x.softReset.InRange := by
  cases hn : x.state.named with
  | true =>
    rw [Point.softReset_of_named hn]
    exact ⟨hx.active, nofun, hx.value, Nat.zero_le _, Nat.zero_le _⟩
  | false =>
    rw [Point.softReset_of_unnamed hn]
    exact ⟨hx.active, nofun, hx.value, hx.age, hx.counter⟩

theorem Point.initial_inRange : Point.initial.InRange :=
  ⟨Profile.default_legal, nofun, by decide, by decide, by decide⟩

/-! What a group that an EDIT carries holds (R3, R4, R202). -/

theorem engAt_inEngRange (ps : List Byte) (i : Nat) : inEngRange (engAt ps i) := by
  have hlow := BitVec.le_two_mul_toInt (x := word24 (byteAt ps i) (byteAt ps (i + 1)) (byteAt ps (i + 2)))
  have hhigh := BitVec.two_mul_toInt_lt (x := word24 (byteAt ps i) (byteAt ps (i + 1)) (byteAt ps (i + 2)))
  unfold inEngRange engAt
  omega

theorem limitAt_inEngRange {fs : List Byte} {bit i : Nat} {v : Int} (h : limitAt fs bit i = some v) : inEngRange v := by
  unfold limitAt at h
  split at h
  · cases h
    exact engAt_inEngRange fs i
  · cases h

/-- A legal profile with a group of an EDIT written in it stays legal (R36, R40). -/
theorem Profile.write_legal (hpr : pr.legal) {code : Byte} {fs : List Byte} {g : Group}
    (hg : groupOf code fs = some g) (ho : g.inOrder = true) : (pr.write g).legal := by
  obtain ⟨hgain, hoffset, hloTrip, hloWarn, hhiWarn, hhiTrip, hhyst, horder, hconfirm⟩ := hpr
  cases g with
  | route r => exact ⟨hgain, hoffset, hloTrip, hloWarn, hhiWarn, hhiTrip, hhyst, horder, hconfirm⟩
  | scale sc =>
    obtain ⟨-, -, hgain', hoffset', -⟩ := groupOf_eq_some.1 hg
    refine ⟨?_, ?_, hloTrip, hloWarn, hhiWarn, hhiTrip, hhyst, horder, hconfirm⟩
    · have hlow := BitVec.le_two_mul_toInt (x := wordAt16 fs 0)
      have hhigh := BitVec.two_mul_toInt_lt (x := wordAt16 fs 0)
      show -32768 ≤ sc.gain ∧ sc.gain ≤ 32767
      omega
    · show inEngRange sc.offset
      rw [hoffset']
      exact engAt_inEngRange fs 2
  | band b =>
    obtain ⟨-, -, -, hlt, hlw, hhw, hht, hh⟩ := groupOf_eq_some.1 hg
    refine ⟨hgain, hoffset, fun v hv => ?_, fun v hv => ?_, fun v hv => ?_, fun v hv => ?_, ?_, ho, hconfirm⟩
    · exact limitAt_inEngRange (hlt.symm.trans hv)
    · exact limitAt_inEngRange (hlw.symm.trans hv)
    · exact limitAt_inEngRange (hhw.symm.trans hv)
    · exact limitAt_inEngRange (hht.symm.trans hv)
    · show b.hysteresis ≤ 65535
      rw [hh]
      exact numAt16_le fs 13
  | policy q =>
    obtain ⟨-, -, hlow, hhigh, hcount, hstale, -⟩ := groupOf_eq_some.1 hg
    refine ⟨hgain, hoffset, hloTrip, hloWarn, hhiWarn, hhiTrip, hhyst, horder, ?_⟩
    show 1 ≤ q.confirm ∧ q.confirm ≤ 8 ∧ q.staleLimit ≤ 255
    rw [hcount, hstale]
    exact ⟨hlow, hhigh, numAt_le fs 2⟩

/-- Every act keeps a record in range. -/
theorem State.RecordAct.inRange (h : s.RecordAct c n x) (hs : (s.pt n).InRange) : x.InRange := by
  obtain ⟨hactive, hstaged, hvalue, hage, hcounter⟩ := hs
  have hwhole : (s.pt n).InRange := ⟨hactive, hstaged, hvalue, hage, hcounter⟩
  cases h with
  | same => exact hwhole
  | dispatched | ended | relinked => exact ⟨hactive, hstaged, hvalue, hage, hcounter⟩
  | condition _ _ _ _ h =>
    obtain ⟨-, -, -, -, -, -, -, -, -, hconfirm, -⟩ := hactive
    exact ⟨hwhole.active, hstaged, hvalue, hage, h.elim hcounter.trans' fun h => h.trans hconfirm⟩
  | point h =>
    cases h with
    | graded code range => exact graded_inRange hwhole code range
    | aged => exact Point.aged_inRange hwhole
    | promoted => exact Point.promoted_inRange hwhole
    | faulted | activated | parked => exact ⟨hactive, hstaged, hvalue, hage, hcounter⟩
    | unparked => exact ⟨hactive, hstaged, hvalue, Nat.zero_le _, Nat.zero_le _⟩
    | edited hc hg ho =>
      obtain ⟨hactive', hstaged', hvalue', hage', hcounter'⟩ :=
        Point.withActive_inRange hwhole (Profile.write_legal hactive hg ho)
      exact ⟨hactive', hstaged', hvalue', hage', hcounter'⟩
    | staged hc hg ho =>
      refine ⟨hactive, fun pr hpr => ?_, hvalue, hage, hcounter⟩
      obtain rfl := Option.some.inj hpr
      refine Profile.write_legal ?_ hg ho
      cases hp : (s.pt n).staged with
      | none => exact hactive
      | some pr => exact hstaged pr hp
  | defined =>
    obtain ⟨hactive', hstaged', hvalue', hage', hcounter'⟩ := Point.initial_inRange
    exact ⟨hactive', hstaged', hvalue', hage', hcounter'⟩
  | initial => exact Point.initial_inRange
  | retired => exact ⟨hactive, nofun, hvalue, hage, hcounter⟩
  | softReset => exact Point.softReset_inRange hwhole

end

/-! ### Sample ports (R84, R87, R93) -/

/-- What an act can make of sample port `i`. -/
inductive State.PortMove (s : State) (i : PortNo) : SamplePort → Prop
  | same : s.PortMove i (s.port i)
  | act {x : SamplePort} (h : s.PortAct i x) : s.PortMove i x
  | opened (n : PointNo) (r : Route) (o : Origin) (hidle : (s.port i).phase = .idle) :
      s.PortMove i ((s.port i).open n r o)
  | cancelRequest : s.PortMove i (s.port i).cancelRequest
  | orderOffline (hfree : (s.port i).phase.draining = false) : s.PortMove i (s.port i).orderOffline
  | enterProbing : s.PortMove i (s.port i).enterProbing
  | ends {x : SamplePort} {r : ConvRecord} (h : (s.port i).EndsAs r x) : s.PortMove i x
  | softReset : s.PortMove i (s.port i).softReset
  | initial : s.PortMove i SamplePort.initial

/-- A sample port in range: T, the counts and its timer, and 3 timeouts only on the way out of service (R93). -/
structure SamplePort.InRange (x : SamplePort) : Prop where
  timeout : 1 ≤ x.timeout ∧ x.timeout ≤ 255
  strays : x.strayCount ≤ 255
  count : x.timeoutCount ≤ 3
  out : x.timeoutCount = 3 → x.phase.isCancelling = true ∨ x.phase = .faulted ∨ x.phase = .offline
  timer : x.phase.timerInRange = true

/-- The expiries due at a port are those of its phase. -/
def Phase.due (i : PortNo) : Phase → List Instr
  | .probing 0 => [.probeTimerExpiry i]
  | .busy _ 0 => [.timeout i]
  | .cancelling _ 0 => [.cancelTimerExpiry i]
  | _ => []

section

variable {s t : State} {c : Instr} {i : PortNo} {x : SamplePort}

theorem dueAtPort_eq (i : PortNo) (x : SamplePort) : dueAtPort i x = x.phase.due i := by
  unfold dueAtPort Phase.due
  split <;> simp_all

/-- What an act makes of each sample port. -/
theorem Act.portMove (h : Act c s t) (i : PortNo) : s.PortMove i (t.port i) := by
  cases h with
  | outside | run | holds | changed | scan | record | marked | defined | resetFall => exact .same
  | conditions h => rw [h.frame]; exact .same
  | @port j x h =>
    rw [State.setPort_port]
    split
    · subst_vars; exact .act h
    · exact .same
  | @dispatched o n hn he =>
    have hport : (s.dispatch o n).port i = if (s.pt n).active.route.port = i
        then (s.port (s.pt n).active.route.port).open n (s.pt n).active.route o else s.port i := State.modPort_port ..
    rw [hport]
    split
    · rename_i hi
      rw [hi]
      exact .opened _ _ _ (hi ▸ State.idle_of_examine_dispatched he)
    · exact .same
  | withdrawn o =>
    rw [State.withdraw_port]
    split
    · exact .cancelRequest
    · exact .same
  | @aborted n j r h =>
    rw [State.modPort_port]
    split
    · subst_vars; exact .cancelRequest
    · exact .same
  | @ended j r x h hr =>
    have hport : ((s.setPort j x).endRecord r.point).port i = if j = i then x else s.port i := State.setPort_port ..
    rw [hport]
    split
    · subst_vars; exact .ends h
    · exact .same
  | cancelAll =>
    have hport : ({ s with ports := s.ports.map SamplePort.cancelRequest } : State).port i
        = (s.port i).cancelRequest := Table.get_map ..
    rw [hport]
    exact .cancelRequest
  | quiet hfree =>
    have hport : s.goQuiet.port i = (s.port i).orderOffline := Table.get_map ..
    rw [hport]
    exact .orderOffline (hfree i)
  | waking =>
    have hport : (s.probeEnabled.setMode .waking).port i
        = if (s.port i).enable then (s.port i).enterProbing else s.port i := Table.get_map ..
    rw [hport]
    split
    · exact .enterProbing
    · exact .same
  | retired => rw [State.retired_port]; exact .same
  | softReset => rw [State.softReset_port]; exact .softReset
  | initial =>
    have hport : State.reset.port i = SamplePort.initial := State.reset_port i
    exact hport ▸ .initial

theorem SamplePort.InRange.count_of_phase (hx : x.InRange) (hc : x.phase.isCancelling = false)
    (hf : x.phase ≠ .faulted) (ho : x.phase ≠ .offline) : x.timeoutCount ≤ 2 := by
  have := hx.count
  by_contra h
  rcases hx.out (by omega) with h | h | h
  · exact nomatch h.symm.trans hc
  · exact hf h
  · exact ho h

theorem SamplePort.enterProbing_inRange (hx : x.InRange) : x.enterProbing.InRange :=
  ⟨hx.timeout, hx.strays, Nat.zero_le _, nofun, rfl⟩

theorem SamplePort.offline_inRange (hx : x.InRange) : ({ x with phase := .offline } : SamplePort).InRange :=
  ⟨hx.timeout, hx.strays, hx.count, fun _ => .inr (.inr rfl), rfl⟩

theorem SamplePort.configured_inRange (hx : x.InRange) (m : Mode) {on : Bool} {timeout : Nat} (hlow : 1 ≤ timeout)
    (hhigh : timeout ≤ 255) (hfree : on = false → x.phase.draining = false) :
    (x.configured m on timeout).InRange := by
  have hset : ({ x with enable := on, timeout := timeout } : SamplePort).InRange :=
    ⟨⟨hlow, hhigh⟩, hx.strays, hx.count, hx.out, hx.timer⟩
  cases on with
  | true =>
    simp only [SamplePort.configured, if_true]
    split
    · exact SamplePort.enterProbing_inRange hset
    · exact hset
  | false =>
    have hoff : x.configured m false timeout = { x with enable := false, timeout := timeout, phase := .offline } :=
      SamplePort.orderOffline_of_drained (x := { x with enable := false, timeout := timeout }) (hfree rfl)
    rw [hoff]
    exact SamplePort.offline_inRange hset

theorem SamplePort.cancelRequest_inRange (hx : x.InRange) : x.cancelRequest.InRange := by
  unfold SamplePort.cancelRequest
  split
  · rename_i r k hp
    refine ⟨hx.timeout, hx.strays, hx.count, fun _ => .inl rfl, ?_⟩
    have htimer := hx.timer
    rw [hp] at htimer
    obtain ⟨hlow, hhigh, -⟩ := of_decide_eq_true htimer
    exact decide_eq_true ⟨hlow, hhigh, le_refl _⟩
  all_goals exact hx

/-- A port stays in range in another phase with a timer in range, where a port out of service stays so. -/
theorem SamplePort.InRange.withPhase (hx : x.InRange) {ph : Phase}
    (hcancel : x.phase.isCancelling = true → ph.isCancelling = true) (hfault : x.phase = .faulted → ph = .faulted)
    (hoff : x.phase = .offline → ph = .offline) (htimer : ph.timerInRange = true) :
    ({ x with phase := ph } : SamplePort).InRange :=
  ⟨hx.timeout, hx.strays, hx.count, fun h => (hx.out h).imp hcancel (Or.imp hfault hoff), htimer⟩

theorem SamplePort.supersedeRecord_inRange (hx : x.InRange) : x.supersedeRecord.InRange := by
  refine hx.withPhase ?_ (fun h => by rw [h]; rfl) (fun h => by rw [h]; rfl) ?_
  · cases x.phase <;> exact id
  · have htimer := hx.timer
    revert htimer
    cases x.phase <;> exact id

/-- Every change of one port alone keeps it in range. -/
theorem State.PortAct.inRange (h : s.PortAct i x) (hs : (s.port i).InRange) : x.InRange := by
  cases h with
  | strays hk => exact ⟨hs.timeout, hk, hs.count, hs.out, hs.timer⟩
  | configured hlow hhigh hfree => exact SamplePort.configured_inRange hs _ hlow hhigh hfree
  | restored => exact SamplePort.enterProbing_inRange hs
  | answered cls hp =>
    have hcount := hs.count_of_phase (by rw [hp]; rfl) (by rw [hp]; nofun) (by rw [hp]; nofun)
    exact ⟨hs.timeout, hs.strays, hs.count, fun h => absurd h (by simp only; omega), rfl⟩
  | absent => exact ⟨hs.timeout, hs.strays, hs.count, fun _ => .inr (.inr rfl), rfl⟩
  | timedOut hp =>
    have hcount := hs.count_of_phase (by rw [hp]; rfl) (by rw [hp]; nofun) (by rw [hp]; nofun)
    have htimer := hs.timer
    rw [hp] at htimer
    obtain ⟨hlow, hhigh, -⟩ := of_decide_eq_true htimer
    exact ⟨hs.timeout, hs.strays, Nat.succ_le_succ hcount, fun _ => .inl rfl, decide_eq_true ⟨hlow, hhigh, le_refl _⟩⟩
  | superseded => exact SamplePort.supersedeRecord_inRange hs

theorem SamplePort.EndsAs.inRange {y : SamplePort} {r : ConvRecord} (h : x.EndsAs r y) (hx : x.InRange) :
    y.InRange := by
  cases h with
  | taken => exact ⟨hx.timeout, hx.strays, Nat.zero_le _, nofun, rfl⟩
  | released =>
    unfold SamplePort.released
    by_cases hcount : x.timeoutCount < 3
    · rw [if_pos hcount]
      exact ⟨hx.timeout, hx.strays, hx.count, fun h => absurd h hcount.ne, rfl⟩
    · rw [if_neg hcount]
      exact ⟨hx.timeout, hx.strays, hx.count, fun _ => .inr (.inl rfl), rfl⟩
  | expired => exact ⟨hx.timeout, hx.strays, hx.count, fun _ => .inr (.inl rfl), rfl⟩

/-- Every act keeps a port in range. -/
theorem State.PortMove.inRange (h : s.PortMove i x) (hs : (s.port i).InRange) : x.InRange := by
  cases h with
  | same => exact hs
  | act h => exact h.inRange hs
  | opened n r o hidle =>
    have hcount := hs.count_of_phase (by rw [hidle]; rfl) (by rw [hidle]; nofun) (by rw [hidle]; nofun)
    have htimeout := hs.timeout
    refine ⟨htimeout, hs.strays, hs.count, fun h => ?_, decide_eq_true ⟨htimeout.1, htimeout.2, le_refl _⟩⟩
    have : (s.port i).timeoutCount = 3 := h
    omega
  | cancelRequest => exact SamplePort.cancelRequest_inRange hs
  | orderOffline hfree =>
    rw [SamplePort.orderOffline_of_drained hfree]
    exact SamplePort.offline_inRange hs
  | enterProbing => exact SamplePort.enterProbing_inRange hs
  | ends h => exact h.inRange hs
  | softReset => exact ⟨hs.timeout, hs.strays, Nat.zero_le _, nofun, rfl⟩
  | initial => exact ⟨by decide, by decide, by decide, nofun, rfl⟩

/-! Only a tick brings an expiry: a timer that an act starts has ticks left. -/

theorem Phase.due_of_left {ph : Phase} (hp : ph ≠ .probing 0) (hb : ∀ r, ph ≠ .busy r 0)
    (hc : ∀ r, ph ≠ .cancelling r 0) : ph.due i = [] := by
  unfold Phase.due
  split
  · exact absurd rfl hp
  · exact absurd rfl (hb _)
  · exact absurd rfl (hc _)
  · rfl

/-- A record whose timer is in range is not of length 0 (R87). -/
theorem Phase.timerLength_ne_zero {ph : Phase} {r : ConvRecord} {k : Nat} (hp : ph = .busy r k ∨ ph = .cancelling r k)
    (h : ph.timerInRange = true) : r.timerLength ≠ 0 := by
  rcases hp with rfl | rfl
  · obtain ⟨hlow, -⟩ := of_decide_eq_true h
    omega
  · obtain ⟨hlow, -⟩ := of_decide_eq_true h
    omega

theorem Phase.due_cancelling {r : ConvRecord} {k : Nat} (hk : k ≠ 0) : (Phase.cancelling r k).due i = [] :=
  Phase.due_of_left nofun (fun _ h => nomatch h) fun _ h => hk (Phase.cancelling.inj h).2

theorem Phase.due_busy {r : ConvRecord} {k : Nat} (hk : k ≠ 0) : (Phase.busy r k).due i = [] :=
  Phase.due_of_left nofun (fun _ h => hk (Phase.busy.inj h).2) fun _ h => nomatch h

theorem Phase.due_mapRecord (ph : Phase) (f : ConvRecord → ConvRecord) : (ph.mapRecord f).due i = ph.due i := by
  cases ph with
  | busy r k => cases k <;> rfl
  | cancelling r k => cases k <;> rfl
  | offline | probing | idle | faulted => rfl

theorem SamplePort.due_configured (m : Mode) {on : Bool} (timeout : Nat)
    (hfree : on = false → x.phase.draining = false) :
    (x.configured m on timeout).phase.due i = [] ∨ (x.configured m on timeout).phase.due i = x.phase.due i := by
  cases on with
  | true =>
    simp only [SamplePort.configured, if_true]
    split
    · exact .inl rfl
    · exact .inr rfl
  | false =>
    have hoff : x.configured m false timeout = { x with enable := false, timeout := timeout, phase := .offline } :=
      SamplePort.orderOffline_of_drained (x := { x with enable := false, timeout := timeout }) (hfree rfl)
    rw [hoff]
    exact .inl rfl

/-- An act leaves the expiry due at a port, or none is due after it. -/
theorem State.PortMove.due (h : s.PortMove i x) (hs : (s.port i).InRange) :
    x.phase.due i = [] ∨ x.phase.due i = (s.port i).phase.due i := by
  cases h with
  | same => exact .inr rfl
  | act h =>
    cases h with
    | strays => exact .inr rfl
    | configured _ _ hfree => exact SamplePort.due_configured _ _ hfree
    | restored | answered | absent => exact .inl rfl
    | timedOut hp => exact .inl (Phase.due_cancelling (Phase.timerLength_ne_zero (.inl hp) hs.timer))
    | superseded => exact .inr (Phase.due_mapRecord ..)
  | opened n r o hidle =>
    have htimeout := hs.timeout
    exact .inl (Phase.due_busy (by omega))
  | cancelRequest =>
    unfold SamplePort.cancelRequest
    split
    · rename_i r k hp
      exact .inl (Phase.due_cancelling (Phase.timerLength_ne_zero (.inl hp) hs.timer))
    all_goals exact .inr rfl
  | orderOffline hfree =>
    rw [SamplePort.orderOffline_of_drained hfree]
    exact .inl rfl
  | enterProbing | softReset | initial => exact .inl rfl
  | ends h =>
    cases h with
    | taken | expired => exact .inl rfl
    | released =>
      refine .inl ?_
      unfold SamplePort.released
      simp only
      split <;> rfl

end

/-! ### The scan engine and run control (R53, R70, R186) -/

/-- The period within its range and the ticks left of its timer (R53). -/
structure Scan.InRange (x : Scan) : Prop where
  low : 1 ≤ x.period
  high : x.period ≤ 65535
  timer : ∀ k, x.periodTimer = some k → k ≤ 655350

section

variable {s t : State} {c : Instr}

/-- What an act makes of the period and its timer. -/
structure Scan.PeriodMove (x y : Scan) : Prop where
  period : y.period = x.period ∨ 1 ≤ y.period ∧ y.period ≤ 65535
  timer : y.periodTimer = x.periodTimer ∨ y.periodTimer = none
    ∨ y.periodTimer = some (x.period * Config.periodUnit)

theorem Scan.PeriodMove.refl (x : Scan) : x.PeriodMove x := ⟨.inl rfl, .inl rfl⟩

theorem Scan.setEntries_periodMove (x : Scan) (o : Origin) (es : List Entry) : x.PeriodMove (x.setEntries o es) := by
  cases o <;> exact ⟨.inl rfl, .inl rfl⟩

theorem State.ScanAct.periodMove {x : Scan} (h : s.ScanAct x) : s.scan.PeriodMove x := by
  cases h with
  | resolve | handOver => exact Scan.setEntries_periodMove ..
  | rerun | startRun | holdRerun | endRun | requestStop | startPass | late | countPass | enterGap | setPrio =>
    exact ⟨.inl rfl, .inl rfl⟩
  | begin m =>
    cases m with
    | oneShot => exact ⟨.inl rfl, .inl rfl⟩
    | cyclic => exact ⟨.inl rfl, .inr (.inr rfl)⟩
  | nextInterval => exact ⟨.inl rfl, .inr (.inr rfl)⟩
  | promoteList => unfold Scan.promoteList; split <;> exact ⟨.inl rfl, .inl rfl⟩
  | goIdle => exact ⟨.inl rfl, .inr (.inl rfl)⟩
  | insert => rw [Scan.insertPoint_eq, Scan.withRoutineList]; split <;> exact ⟨.inl rfl, .inl rfl⟩
  | remove => rw [Scan.removePoint_eq, Scan.withRoutineList]; split <;> exact ⟨.inl rfl, .inl rfl⟩
  | clear => rw [Scan.clearList_eq]; simp only [Scan.withRoutineList]; split <;> exact ⟨.inl rfl, .inl rfl⟩
  | config trigger hlow hhigh => exact ⟨.inr ⟨hlow, hhigh⟩, .inl rfl⟩

theorem Act.periodMove (h : Act c s t) : s.scan.PeriodMove t.scan := by
  cases h with
  | outside | run | holds | changed | record | marked | port | ended | cancelAll | quiet | waking | defined =>
    exact .refl _
  | resetFall => exact ⟨.inl rfl, .inl rfl⟩
  | scan h => exact h.periodMove
  | conditions h => rw [h.frame]; exact .refl _
  | dispatched o | aborted => exact Scan.setEntries_periodMove ..
  | withdrawn o => rw [State.withdraw_frame]; exact Scan.setEntries_periodMove ..
  | retired => rw [State.retired_scan]; exact ⟨.inl rfl, .inl rfl⟩
  | softReset => exact ⟨.inl rfl, .inr (.inl rfl)⟩
  | initial => exact ⟨.inr (by decide : 1 ≤ State.reset.scan.period ∧ State.reset.scan.period ≤ 65535), .inr (.inl rfl)⟩

theorem Scan.PeriodMove.inRange {x y : Scan} (h : x.PeriodMove y) (hx : x.InRange) : y.InRange := by
  have hlow := hx.low
  have hhigh := hx.high
  refine ⟨?_, ?_, fun k hk => ?_⟩
  · rcases h.period with h | h <;> omega
  · rcases h.period with h | h <;> omega
  · rcases h.timer with h | h | h
    · exact hx.timer k (h ▸ hk)
    · exact nomatch h.symm.trans hk
    · obtain rfl := Option.some.inj (h.symm.trans hk)
      show x.period * 10 ≤ 655350
      omega

theorem Scan.PeriodMove.due {x y : Scan} (h : x.PeriodMove y) (hx : x.InRange) (hy : y.periodTimer = some 0) :
    x.periodTimer = some 0 := by
  have hlow := hx.low
  rcases h.timer with h | h | h
  · exact h ▸ hy
  · exact nomatch h.symm.trans hy
  · have hzero : x.period * 10 = 0 := Option.some.inj (h.symm.trans hy)
    omega

/-- An act starts the wake guard afresh, stops it, or leaves it (R190). -/
theorem Act.wakeGuard (h : Act c s t) {k : Nat} (hk : t.run.wakeGuard = some k) :
    k = Config.wakeGuardTicks ∨ s.run.wakeGuard = some k := by
  cases h with
  | run _ hguard => exact hguard k hk
  | outside | holds | changed | scan | record | marked | port | dispatched | aborted | ended | cancelAll | quiet
    | waking | defined | resetFall => exact .inr hk
  | conditions h => rw [h.frame] at hk; exact .inr hk
  | withdrawn => rw [State.withdraw_frame] at hk; exact .inr hk
  | retired => rw [State.retired_run] at hk; exact .inr hk
  | softReset | initial => cases hk

/-! ### Holds (R145 to R147) -/

theorem reportedTime_inRange {left : Nat} (h : left ≤ 25500) : 1 ≤ reportedTime left ∧ reportedTime left ≤ 255 := by
  show 1 ≤ max 1 ((left + 99) / 100) ∧ max 1 ((left + 99) / 100) ≤ 255
  omega

theorem holdTicks_inRange {time : Nat} (hlow : 1 ≤ time) (hhigh : time ≤ 255) :
    1 ≤ time * Config.holdUnit ∧ time * Config.holdUnit ≤ 25500 := by
  show 1 ≤ time * 100 ∧ time * 100 ≤ 25500
  omega

/-- An act sets a hold to at most 255 ms, or leaves its remaining time. -/
theorem State.HoldsAct.left {hs : List HoldRecord} (h : s.HoldsAct c hs) {r : HoldRecord} (hr : r ∈ hs) :
    (1 ≤ r.left ∧ r.left ≤ 25500) ∨ ∃ r' ∈ s.holds, r'.left = r.left ∧ r'.point = r.point := by
  cases h with
  | renewed n hlow hhigh =>
    obtain ⟨r', hr', rfl⟩ := List.mem_map.1 hr
    split
    · exact .inl (holdTicks_inRange hlow hhigh)
    · exact .inr ⟨r', hr', rfl, rfl⟩
  | created _ hlow hhigh =>
    rcases List.mem_append.1 hr with hr | hr
    · exact .inr ⟨r, hr, rfl, rfl⟩
    · obtain rfl := List.mem_singleton.1 hr
      exact .inl (holdTicks_inRange hlow hhigh)
  | filtered q => exact .inr ⟨r, (List.mem_filter.1 hr).1, rfl, rfl⟩

/-! ### The ranges together -/

theorem State.rangeLaw_iff : s.RangeLaw ↔ (∀ n, (s.pt n).InRange) ∧ s.scan.InRange ∧ (∀ i, (s.port i).InRange)
    ∧ (∀ k, s.run.wakeGuard = some k → k ≤ 1000) ∧ ∀ h ∈ s.holds, h.left ≤ 25500 := by
  constructor
  · rintro ⟨hpt, hlow, hhigh, htimer, hport, hguard, hholds⟩
    refine ⟨fun n => ?_, ⟨hlow, hhigh, htimer⟩, fun i => ?_, hguard, fun h hh => (hholds h hh).1⟩
    · obtain ⟨hactive, hstaged, hvalue, hage, hcounter⟩ := hpt n
      exact ⟨hactive, hstaged, hvalue, hage, hcounter⟩
    · obtain ⟨hlow, hhigh, hstrays, hcount, hout, hphase⟩ := hport i
      exact ⟨⟨hlow, hhigh⟩, hstrays, hcount, hout, hphase⟩
  · rintro ⟨hpt, hscan, hport, hguard, hholds⟩
    refine ⟨fun n => ?_, hscan.low, hscan.high, hscan.timer, fun i => ?_, hguard, fun h hh => ?_⟩
    · exact ⟨(hpt n).active, (hpt n).staged, (hpt n).value, (hpt n).age, (hpt n).counter⟩
    · obtain ⟨⟨hlow, hhigh⟩, hstrays, hcount, hout, hphase⟩ := hport i
      exact ⟨hlow, hhigh, hstrays, hcount, hout, hphase⟩
    · exact ⟨hholds h hh, reportedTime_inRange (hholds h hh)⟩

/-- Every act keeps the ranges. -/
theorem State.RangeLaw.act (hs : s.RangeLaw) (h : Act c s t) : t.RangeLaw := by
  obtain ⟨hpt, hscan, hport, hguard, hholds⟩ := State.rangeLaw_iff.1 hs
  refine State.rangeLaw_iff.2 ⟨fun n => (h.recordAct n).inRange (hpt n), h.periodMove.inRange hscan,
    fun i => (h.portMove i).inRange (hport i), fun k hk => ?_, fun r hr => ?_⟩
  · rcases h.wakeGuard hk with rfl | hk
    · decide
    · exact hguard k hk
  · rcases h.holdsAct.left hr with hleft | ⟨r', hr', hleft, -⟩
    · exact hleft.2
    · exact hleft ▸ hholds r' hr'

/-! A tick. -/

theorem Phase.timerInRange_probing {k : Nat} : (Phase.probing k).timerInRange = true ↔ k ≤ 200 := decide_eq_true_iff

theorem Phase.timerInRange_busy {r : ConvRecord} {k : Nat} :
    (Phase.busy r k).timerInRange = true ↔ 1 ≤ r.timerLength ∧ r.timerLength ≤ 255 ∧ k ≤ r.timerLength :=
  decide_eq_true_iff

theorem Phase.timerInRange_cancelling {r : ConvRecord} {k : Nat} :
    (Phase.cancelling r k).timerInRange = true ↔ 1 ≤ r.timerLength ∧ r.timerLength ≤ 255 ∧ k ≤ r.timerLength :=
  decide_eq_true_iff

theorem SamplePort.elapse_inRange {x : SamplePort} (hx : x.InRange) : x.elapse.InRange := by
  refine hx.withPhase ?_ (fun h => by rw [h]) (fun h => by rw [h]) ?_
  · cases x.phase <;> exact id
  · have htimer := hx.timer
    revert htimer
    cases x.phase with
    | probing k =>
      simp only [Phase.timerInRange_probing]
      omega
    | busy r k =>
      simp only [Phase.timerInRange_busy]
      omega
    | cancelling r k =>
      simp only [Phase.timerInRange_cancelling]
      omega
    | offline | idle | faulted => exact id

theorem State.RangeLaw.elapse (hs : s.RangeLaw) : s.elapse.RangeLaw := by
  obtain ⟨hpt, hscan, hport, hguard, hholds⟩ := State.rangeLaw_iff.1 hs
  refine State.rangeLaw_iff.2 ⟨hpt, ⟨hscan.low, hscan.high, fun k hk => ?_⟩, fun i => ?_, fun k hk => ?_,
    fun h hh => ?_⟩
  · obtain ⟨k', hk', rfl⟩ := Option.map_eq_some_iff.1 hk
    exact (Nat.sub_le ..).trans (hscan.timer k' hk')
  · rw [State.elapse_port]
    exact SamplePort.elapse_inRange (hport i)
  · obtain ⟨k', hk', rfl⟩ := Option.map_eq_some_iff.1 hk
    exact (Nat.sub_le ..).trans (hguard k' hk')
  · obtain ⟨h', hh', rfl⟩ := List.mem_map.1 hh
    exact (Nat.sub_le ..).trans (hholds h' hh')

theorem State.RangeLaw.idle (hs : s.RangeLaw) : s.idle.RangeLaw := by
  unfold State.idle
  split
  · exact hs
  · exact State.RangeLaw.elapse hs

end

end Sys2Proof.Machine

/-! SUPPORT. A timer that has run out has its expiry waiting: only a tick brings an expiry, and the row that takes it
leaves none behind. -/

namespace Sys2Proof.Machine

section

variable {s t u : State} {c d : Instr} {n : PointNo} {i : PortNo}

/-! ### The expiries that are due (log entry 3) -/

/-- What an expiry that is due stands for: a timer at 0. -/
theorem State.mem_dueExpiries : d ∈ s.dueExpiries ↔
    (∃ j, d ∈ (s.port j).phase.due j) ∨ (s.scan.periodTimer = some 0 ∧ d = .periodTick)
      ∨ (s.run.wakeGuard = some 0 ∧ d = .wakeGuardExpiry)
      ∨ ∃ h ∈ s.holds, h.left = 0 ∧ d = .holdExpiry h.point := by
  have hholds : d ∈ ((s.holds.filter fun h => h.left = 0).map fun h => .holdExpiry h.point)
      ↔ ∃ h ∈ s.holds, h.left = 0 ∧ d = .holdExpiry h.point := by
    simp [and_assoc, @eq_comm _ d]
  have hone (p : Prop) [Decidable p] (e : Instr) : d ∈ (if p then [e] else []) ↔ p ∧ d = e := by
    split <;> simp_all
  rw [State.dueExpiries, List.mem_append, List.mem_append, List.mem_append, List.mem_flatMap, hholds, hone, hone,
    or_assoc, or_assoc]
  simp [dueAtPort_eq]

theorem Phase.mem_due {ph : Phase} : d ∈ ph.due i ↔
    (ph = .probing 0 ∧ d = .probeTimerExpiry i) ∨ (∃ r, ph = .busy r 0 ∧ d = .timeout i)
      ∨ ∃ r, ph = .cancelling r 0 ∧ d = .cancelTimerExpiry i := by
  unfold Phase.due
  split <;> simp_all

theorem State.timeout_mem_due : .timeout i ∈ s.dueExpiries ↔ ∃ r, (s.port i).phase = .busy r 0 := by
  simp [State.mem_dueExpiries, Phase.mem_due]

theorem State.cancelTimerExpiry_mem_due :
    .cancelTimerExpiry i ∈ s.dueExpiries ↔ ∃ r, (s.port i).phase = .cancelling r 0 := by
  simp [State.mem_dueExpiries, Phase.mem_due]

theorem State.probeTimerExpiry_mem_due : .probeTimerExpiry i ∈ s.dueExpiries ↔ (s.port i).phase = .probing 0 := by
  simp [State.mem_dueExpiries, Phase.mem_due]

theorem State.periodTick_mem_due : .periodTick ∈ s.dueExpiries ↔ s.scan.periodTimer = some 0 := by
  simp [State.mem_dueExpiries, Phase.mem_due]

theorem State.wakeGuardExpiry_mem_due : .wakeGuardExpiry ∈ s.dueExpiries ↔ s.run.wakeGuard = some 0 := by
  simp [State.mem_dueExpiries, Phase.mem_due]

theorem State.holdExpiry_mem_due :
    .holdExpiry n ∈ s.dueExpiries ↔ ∃ h ∈ s.holds, h.left = 0 ∧ h.point = n := by
  simp [State.mem_dueExpiries, Phase.mem_due, @eq_comm _ n]

/-! ### Acts bring no expiry -/

/-- No act makes an expiry due: a timer that it starts has ticks left. -/
theorem Act.due (h : Act c s t) (hs : s.RangeLaw) (hd : d ∈ t.dueExpiries) : d ∈ s.dueExpiries := by
  obtain ⟨-, hscan, hport, -, -⟩ := State.rangeLaw_iff.1 hs
  rw [State.mem_dueExpiries] at hd ⊢
  rcases hd with ⟨j, hd⟩ | ⟨htimer, rfl⟩ | ⟨hguard, rfl⟩ | ⟨r, hr, hleft, rfl⟩
  · rcases (h.portMove j).due (hport j) with hnone | hsame
    · rw [hnone] at hd
      cases hd
    · exact .inl ⟨j, hsame ▸ hd⟩
  · exact .inr (.inl ⟨h.periodMove.due hscan htimer, rfl⟩)
  · rcases h.wakeGuard hguard with hzero | hguard
    · cases hzero
    · exact .inr (.inr (.inl ⟨hguard, rfl⟩))
  · rcases h.holdsAct.left hr with ⟨hlow, -⟩ | ⟨r', hr', hleft', hpoint⟩
    · omega
    · exact .inr (.inr (.inr ⟨r', hr', hleft'.trans hleft, by rw [hpoint]⟩))

theorem Acts.rangeLaw (h : Acts c s t) (hs : s.RangeLaw) : t.RangeLaw :=
  h.keep (P := State.RangeLaw) (fun h hs => State.RangeLaw.act hs h) hs

theorem Acts.due (h : Acts c s t) (hs : s.RangeLaw) (hd : d ∈ t.dueExpiries) : d ∈ s.dueExpiries := by
  induction h with
  | refl => exact hd
  | tail h hact ih => exact ih (hact.due (h.rangeLaw hs) hd)

theorem State.unlink_pending (s : State) (n : PointNo) : (s.unlink n).pending = s.pending := by
  unfold State.unlink
  simp only
  split
  · rfl
  · split <;> rfl

/-- The rows leave the queue of waiting steps (log entries 3, 13). -/
theorem Acts.pending (h : Acts c s t) : t.pending = s.pending := by
  refine h.keep (P := fun u => u.pending = s.pending) (fun {u v} h hu => ?_) rfl
  refine Eq.trans ?_ hu
  cases h with
  | outside | run | holds | changed | scan | record | marked | port | dispatched | aborted | ended | cancelAll | quiet
    | waking | defined | softReset | initial | resetFall => rfl
  | conditions h => rw [h.frame]
  | withdrawn => rw [State.withdraw_frame]
  | retired => exact u.unlink_pending _

/-! ### The row of an expiry leaves it no longer due -/

/-- An expiry that is no longer due at one moment of a step is not due after it. -/
theorem Acts.not_due (h : Acts c u t) (hu : u.RangeLaw) (hd : d ∉ u.dueExpiries) : d ∉ t.dueExpiries :=
  fun ht => hd (h.due hu ht)

theorem takeTimeout_not_due {r : ConvRecord} (hs : s.RangeLaw) (hp : (s.port i).phase = .busy r 0) :
    .timeout i ∉ (s.takeTimeout i r).dueExpiries := by
  let u := (s.handOver r.origin r.point .faulted).modPort i fun x => x.timedOut r
  have hstart : Acts (.timeout i) s u :=
    (Acts.handOver s r.origin r.point (out := .faulted) (by decide)).tail
      (.port (s := s.handOver r.origin r.point .faulted) (.timedOut hp (s.handOver_notInFlight _ _ (by decide))))
  have hrest : Acts (.timeout i) u (s.takeTimeout i r) := by
    unfold State.takeTimeout
    simp only
    split
    · rename_i h
      exact (Acts.faultPoint (s := u) (n := r.point) h.2).settled
    · exact .settle u
  refine hrest.not_due (hstart.rangeLaw hs) ?_
  rw [State.timeout_mem_due]
  rintro ⟨r', hr'⟩
  rw [State.modPort_port, if_pos rfl] at hr'
  cases hr'

theorem takeCancelExpiry_not_due {r : ConvRecord} (hs : s.RangeLaw) (hp : (s.port i).phase = .cancelling r 0) :
    .cancelTimerExpiry i ∉ (s.takeCancelExpiry i r).dueExpiries := by
  have hended : Act (.cancelTimerExpiry i) s ((s.setPort i { s.port i with phase := .faulted }).endRecord r.point) :=
    .ended (.expired hp) fun _ hb => nomatch hp.symm.trans hb
  refine Acts.not_due (c := .cancelTimerExpiry i) ((Acts.settle _).trans (.drainEnded _))
    (State.RangeLaw.act hs hended) ?_
  rw [State.cancelTimerExpiry_mem_due]
  rintro ⟨r', hr'⟩
  have hport : ((s.setPort i { s.port i with phase := .faulted }).port i).phase = .cancelling r' 0 := hr'
  rw [State.setPort_port, if_pos rfl] at hport
  cases hport

theorem endProbe_not_due (hs : s.RangeLaw) (hp : (s.port i).phase = .probing 0) :
    .probeTimerExpiry i ∉ (s.endProbe i).dueExpiries := by
  have habsent : Act (.probeTimerExpiry i) s (s.modPort i SamplePort.foundAbsent) := .port (.absent hp)
  refine Acts.not_due (c := .probeTimerExpiry i) (Acts.settled (.probeEnded _)) (State.RangeLaw.act hs habsent) ?_
  rw [State.probeTimerExpiry_mem_due, State.modPort_port, if_pos rfl]
  nofun

theorem takeTick_not_due (hs : s.RangeLaw) (hp : s.scan.periodTimer = some 0) :
    .periodTick ∉ s.takeTick.dueExpiries := by
  have hinterval : Act .periodTick s (s.modScan Scan.nextInterval) := .scan (.nextInterval hp)
  have hrest : Acts .periodTick (s.modScan Scan.nextInterval) s.takeTick := by
    unfold State.takeTick
    simp only
    split
    · rename_i hgap
      exact (Acts.modScan (.startPass (by simp [Scan.nextInterval, hgap]))).settled
    · rename_i hpass
      exact (Acts.modScan (.late (s := s.modScan Scan.nextInterval) hpass)).trans (.modAttn ..)
    · exact .refl
  refine hrest.not_due (State.RangeLaw.act hs hinterval) ?_
  obtain ⟨-, hscan, -⟩ := State.rangeLaw_iff.1 hs
  have hlow := hscan.low
  rw [State.periodTick_mem_due]
  intro hzero
  have hzero : s.scan.period * 10 = 0 := Option.some.inj hzero
  omega

theorem expireHold_not_due (h : HoldRecord) : .holdExpiry h.point ∉ (s.expireHold h).dueExpiries := by
  rw [State.holdExpiry_mem_due]
  rintro ⟨k, hk, -, hpoint⟩
  exact of_decide_eq_true (List.mem_filter.1 hk).2 hpoint

/-- Out of reset no row leaves its own expiry due. -/
theorem exec_not_due (hs : s.RangeLaw) (hholds : s.HoldLaw) (hr : s.heldInReset = false) (ht : exec c s = .next t) :
    c ∉ t.dueExpiries := by
  by_cases hc : c ∈ s.dueExpiries
  · rw [State.mem_dueExpiries] at hc
    rcases hc with ⟨j, hc⟩ | ⟨htimer, rfl⟩ | ⟨hguard, rfl⟩ | ⟨h, hh, hleft, rfl⟩
    · rcases Phase.mem_due.1 hc with ⟨hp, rfl⟩ | ⟨r, hp, rfl⟩ | ⟨r, hp, rfl⟩
      · cases (execProbeTimerExpiry_runOut hr hp).symm.trans ht
        exact endProbe_not_due hs hp
      · cases (execTimeout_runOut hr hp).symm.trans ht
        exact takeTimeout_not_due hs hp
      · cases (execCancelTimerExpiry_runOut hr hp).symm.trans ht
        exact takeCancelExpiry_not_due hs hp
    · have hexec := execPeriodTick_eq hr
      rw [if_pos htimer] at hexec
      cases hexec.symm.trans ht
      exact takeTick_not_due hs htimer
    · have hexec := execWakeGuardExpiry_eq hr
      rw [if_pos hguard] at hexec
      cases hexec.symm.trans ht
      rw [State.wakeGuardExpiry_mem_due]
      nofun
    · obtain ⟨-, hnodup, -⟩ := hholds
      cases (execHoldExpiry_runOut hr (State.holdOn_of_mem hnodup hh) hleft).symm.trans ht
      exact expireHold_not_due h
  · exact fun hd => hc ((exec_acts ht).due hs hd)

/-! ### Held in reset -/

theorem dueExpiries_of_reset {high a b : Bool} {waiting : List Instr} :
    ({ initialState high waiting with inReset := a, poweringUp := b } : State).dueExpiries = [] :=
  State.reset_dueExpiries

/-- A step that ends a reset leaves no expiry due (R196). -/
theorem exec_held_due (hr : s.heldInReset = true) (hout : t.heldInReset = false) (ht : exec c s = .next t) :
    t.dueExpiries = [] := by
  by_cases hpower : ∃ high, c = .powerOn high
  · obtain ⟨high, rfl⟩ := hpower
    cases ht
    exact dueExpiries_of_reset
  by_cases hedge : ∃ e, c = .resetN e
  · obtain ⟨e, rfl⟩ := hedge
    cases e with
    | fall =>
      cases ht
      cases hout
    | rise high =>
      cases ht
      exact dueExpiries_of_reset
  · cases (exec_held hr (fun high h => hpower ⟨high, h⟩) fun e h => hedge ⟨e, h⟩).symm.trans ht
    exact nomatch hr.symm.trans hout

end

/-- Settles O59: each act of a step keeps the ranges and brings no expiry, the row of an expiry leaves it no longer due,
and a tick queues the expiries that it brings. -/
theorem everyStepKeepsTheRanges : Obligations.EveryStepKeepsTheRanges := by
  intro s t ht
  refine ⟨fun hs => ?_, fun hs hholds hexpiry hout d hd => ?_⟩
  · exact step_keeps (P := State.RangeLaw) (fun _ => State.RangeLaw.idle) (fun _ _ h => h)
      (fun h hs => State.RangeLaw.act hs h) hs ht
  unfold step at ht
  split at ht
  · cases ht
    unfold State.idle at hd hout ⊢
    split at hout
    · rename_i hr
      exact nomatch hr.symm.trans hout
    · rename_i hr
      rw [if_neg hr] at hd ⊢
      exact hd
  · rename_i c rest hpending
    have hrest : t.pending = rest := (exec_acts ht).pending
    cases hr : s.heldInReset with
    | true =>
      rw [exec_held_due (s := { s with pending := rest }) hr hout ht] at hd
      cases hd
    | false =>
      have hdue : d ∈ s.dueExpiries := (exec_acts ht).due (s := { s with pending := rest }) hs hd
      have hwaits := hexpiry hr d hdue
      rw [hpending] at hwaits
      rcases List.mem_cons.1 hwaits with rfl | hwaits
      · exact absurd hd (exec_not_due (s := { s with pending := rest }) hs hholds hr ht)
      · rwa [hrest]

end Sys2Proof.Machine

/-! SUPPORT. The commands of the life cycle, DEFINE and the drain of run control. -/

namespace Sys2Proof.Machine

section

variable {s : State} {p : CmdPort} {ps : List Byte} {n : PointNo} {before : PointState} {change : Point → Point}

/-! ### ACTIVATE, PARK and UNPARK (R11, R14 to R16) -/

theorem lifecycleRule_accepted (hn : s.resolve (selectorAt ps 0) = .ok n) (hh : s.blockingHold p n = none)
    (hs : (s.pt n).state = before) :
    lifecycleRule p ps before change s = accept (bytes16 ((s.pt n).revision + 1#16))
      (s.setPt n { change (s.pt n) with revision := (change (s.pt n)).revision + 1#16 }).settle := by
  rw [lifecycleRule, withPoint_ok hn, unlessHeld_none hh, if_pos hs, State.bumpRevision, State.modPt_modPt]
  rfl

theorem lifecycleRule_badState (hn : s.resolve (selectorAt ps 0) = .ok n) (hh : s.blockingHold p n = none)
    (hs : (s.pt n).state ≠ before) : lifecycleRule p ps before change s = refuse .badState s := by
  rw [lifecycleRule, withPoint_ok hn, unlessHeld_none hh, if_neg hs]

end

/-- Settles O17: the three commands are one rule, with a state before and a change. -/
theorem lifecycleCommandsMoveTheState : Obligations.LifecycleCommandsMoveTheState := by
  intro p ps s n hw hl hn hh
  have hmode := refusalOfMode_works hw
  have hexec {c : Cmd} {st : Status} {data : List Byte} {t : State} (ht : s.Takes c p ps)
      (hc : admissionOf c = .settledModes) (hfits : lengthFits c 5 = true)
      (hr : ruleOf c p ps s = (⟨st, data⟩, t)) : exec (rowOf c p ps) s = .next (t.answered p st data) :=
    exec_row_answered ht (hc ▸ hmode) (hl ▸ hfits) hr
  refine ⟨fun ht hs => hexec ht rfl rfl (lifecycleRule_accepted hn hh hs),
    fun ht hs => hexec ht rfl rfl (lifecycleRule_accepted hn hh hs),
    fun ht hs => hexec ht rfl rfl (lifecycleRule_accepted hn hh hs),
    fun ht hs => hexec ht rfl rfl (lifecycleRule_badState hn hh hs),
    fun ht hs => hexec ht rfl rfl (lifecycleRule_badState hn hh hs),
    fun ht hs => hexec ht rfl rfl (lifecycleRule_badState hn hh hs)⟩

section

variable {s : State} {ps : List Byte} {n : PointNo}

/-! ### DEFINE (R12, R13, R26) -/

theorem defineRule_badParam (h : wordAt32 ps 0 = 0#32) : defineRule ps s = refuse .badParam s := by
  simp [defineRule, h]

theorem defineRule_tagInUse (h : wordAt32 ps 0 ≠ 0#32) (hn : s.lookup (wordAt32 ps 0) = some n) :
    defineRule ps s = refuse .tagInUse s := by
  simp [defineRule, h, hn]

theorem defineRule_tableFull (h : wordAt32 ps 0 ≠ 0#32) (hn : s.lookup (wordAt32 ps 0) = none)
    (hfull : ∀ n, (s.pt n).state ≠ .free) : defineRule ps s = refuse .tableFull s := by
  have hfirst : s.points.first (fun x => x.state == .free) = none :=
    (Table.first_eq_none ..).2 fun n => beq_false_of_ne (hfull n)
  simp [defineRule, h, hn, hfirst]

theorem defineRule_accepted (h : wordAt32 ps 0 ≠ 0#32) (hn : s.lookup (wordAt32 ps 0) = none)
    (hfree : (s.pt n).state = .free) (hlowest : ∀ m, m < n → (s.pt m).state ≠ .free) :
    defineRule ps s = accept (pointBytes n ++ bytes16 ((s.pt n).revision + 1#16))
      ((s.setPt n (definedRecord (s.pt n) (wordAt32 ps 0))).link n (wordAt32 ps 0)) := by
  have hfirst : s.points.first (fun x => x.state == .free) = some n :=
    (Table.first_eq_some ..).2 ⟨beq_iff_eq.2 hfree, fun m hm => beq_false_of_ne (hlowest m hm)⟩
  simp [defineRule, h, hn, hfirst]

theorem State.link_pt (s : State) (n m : PointNo) (t : Tag) :
    (s.link n t).pt m = if n = m then { s.pt n with next := s.head (bucketOf t) } else s.pt m := State.setNext_pt ..

theorem State.link_head (s : State) (n : PointNo) (t : Tag) (b : Byte) :
    (s.link n t).head b = if bucketOf t = b then some n else s.head b := State.setHead_head ..

end

/-- Settles O13: with a sound index the lookup finds exactly the tags in use, and the lowest FREE record is the first
that the table gives. -/
theorem defineAllocatesTheLowestFreeRecord : Obligations.DefineAllocatesTheLowestFreeRecord := by
  intro p ps s ht hw hl hindex
  have htag := hindex.tagLaw
  have hexec {st : Status} {data : List Byte} {u : State} (hr : defineRule ps s = (⟨st, data⟩, u)) :
      exec (.define p ps) s = .next (u.answered p st data) :=
    exec_row_answered (c := .define) ht (refusalOfMode_works hw) (decide_eq_true hl) hr
  refine ⟨fun h => hexec (defineRule_badParam h), fun h ⟨n, hn⟩ => hexec (defineRule_tagInUse h ((htag _ n).2 hn)),
    fun h hnew hfull => hexec (defineRule_tableFull h (State.lookup_eq_none htag hnew) hfull),
    fun n h hnew hfree hlowest => ?_⟩
  refine ⟨_, hexec (defineRule_accepted h (State.lookup_eq_none htag hnew) hfree hlowest), rfl, ?_, fun m hm => ?_, ?_,
    fun b hb => ?_⟩
  · rw [State.link_pt, if_pos rfl, State.setPt_pt_self]
    rfl
  · rw [State.link_pt, if_neg hm.symm, State.setPt_pt, if_neg hm.symm]
  · rw [State.link_head, if_pos rfl]
  · rw [State.link_head, if_neg hb.symm]
    rfl

end Sys2Proof.Machine

/-! SUPPORT. The ends of CANCELLING: the port released or faulted, the record gone, and the end of a drain. -/

namespace Sys2Proof.Machine

section

variable {s : State} {i : PortNo} {r : ConvRecord} {k : Nat} {x : SamplePort}

/-- The end of an outstanding record before the engine goes on: port `i` becomes `x` and the point loses its mark
(R19, R93, R94). -/
abbrev State.endedTo (s : State) (i : PortNo) (r : ConvRecord) (x : SamplePort) : State :=
  (s.setPort i x).endRecord r.point

theorem State.endedTo_port (j : PortNo) : (s.endedTo i r x).port j = if i = j then x else s.port j :=
  State.setPort_port ..

/-- A matching answer in CANCELLING releases the port (R93). -/
theorem exec_answer_cancelling {c : Instr} {code : BitVec 16} {range : RangeFlag} (hout : s.heldInReset = false)
    (hp : (s.port i).phase = .cancelling r k) (hc : c = .result i r.seq code range ∨ c = .cancelAck i r.seq) :
    exec c s = .next (s.endedTo i r (s.port i).released).settle.drainEnded := by
  have htaken : exec c s = .next (s.takeRelease i r) := by
    rcases hc with rfl | rfl
    · have hreceive : s.receive i (.result r.seq code range) = s.takeRelease i r := by simp [State.receive, hp]
      exact (onEvent_out (f := fun s => s.receive i (.result r.seq code range)) hout).trans (congrArg _ hreceive)
    · have hreceive : s.receive i (.cancelAck r.seq) = s.takeRelease i r := by simp [State.receive, hp]
      exact (onEvent_out (f := fun s => s.receive i (.cancelAck r.seq)) hout).trans (congrArg _ hreceive)
  exact htaken

/-! No answer that is taken first leaves an expiry in CANCELLING (R99). -/

theorem SamplePort.notCancelling_engineStable :
    SamplePort.EngineStable fun x => x.phase.isCancelling = false where
  supersedeRecord x h := by
    show (x.phase.mapRecord _).isCancelling = false
    cases hp : x.phase <;> simp_all [Phase.mapRecord, Phase.isCancelling]
  opened _ _ _ _ _ _ := rfl

theorem SamplePort.released_notCancelling (x : SamplePort) : x.released.phase.isCancelling = false := by
  unfold SamplePort.released
  simp only
  split <;> rfl

theorem State.drainEnded_notCancelling (h : (s.port i).phase.isCancelling = false) :
    (s.drainEnded.port i).phase.isCancelling = false := by
  unfold State.drainEnded
  split
  · have hport : s.goQuiet.port i = (s.port i).orderOffline := Table.get_map ..
    rw [hport]
    cases hp : (s.port i).phase with
    | cancelling r k => exact nomatch hp ▸ h
    | offline | busy | idle | faulted | probing => simp [SamplePort.orderOffline, hp, Phase.isCancelling]
  · exact h

theorem execCancelTimerExpiry_of_released :
    exec (.cancelTimerExpiry i) (s.endedTo i r (s.port i).released).settle.drainEnded
      = .next (s.endedTo i r (s.port i).released).settle.drainEnded := by
  refine execCancelTimerExpiry_none fun r' hr' => ?_
  have hended : ((s.endedTo i r (s.port i).released).port i).phase.isCancelling = false := by
    rw [State.endedTo_port, if_pos rfl]
    exact SamplePort.released_notCancelling _
  have hstill := State.drainEnded_notCancelling
    (State.settle_port_induct SamplePort.notCancelling_engineStable hended)
  rw [hr'] at hstill
  cases hstill

/-! The end of a drain (R192). -/

/-- In QUIESCING the engine rests, and with another port still draining nothing else follows (R192). -/
theorem State.endedTo_drains (hm : s.run.mode = .quiescing) (hlaw : s.ModeLaw)
    (hother : ∃ j, j ≠ i ∧ (s.port j).phase.draining = true) :
    (s.endedTo i r x).settle.drainEnded = s.endedTo i r x := by
  have hrests : (s.endedTo i r x).scan.Rests := State.ModeLaw.rests (s := s) hlaw (by simp [hm])
  obtain ⟨j, hj, hdrains⟩ := hother
  rw [State.settle_of_rests hrests, State.drainEnded_of_draining (j := j)]
  rwa [State.endedTo_port, if_neg hj.symm]

/-- The last end of a drain orders every port OFFLINE, and the mode becomes QUIET (R192). -/
theorem State.endedTo_last (hm : s.run.mode = .quiescing) (hlaw : s.ModeLaw) (hx : x.phase.draining = false)
    (hother : ∀ j, j ≠ i → (s.port j).phase.draining = false) :
    (s.endedTo i r x).settle.drainEnded = { s.endedTo i r x with
      ports := (s.endedTo i r x).ports.map fun y => { y with phase := .offline }
      run := { s.run with mode := .quiet } } := by
  have hrests : (s.endedTo i r x).scan.Rests := State.ModeLaw.rests (s := s) hlaw (by simp [hm])
  have hfree (j : PortNo) : ((s.endedTo i r x).port j).phase.draining = false := by
    rw [State.endedTo_port]
    split
    · exact hx
    · exact hother j (Ne.symm ‹_›)
  have hports : (s.endedTo i r x).ports.map SamplePort.orderOffline
      = (s.endedTo i r x).ports.map fun y : SamplePort => ({ y with phase := .offline } : SamplePort) := by
    refine Table.ext_get fun j => ?_
    rw [Table.get_map, Table.get_map]
    exact SamplePort.orderOffline_of_drained (hfree j)
  rw [State.settle_of_rests hrests, State.drainEnded_last (s := s.endedTo i r x) hm hfree, State.goQuiet, hports]
  rfl

/-- The ends of CANCELLING by mode: outside QUIESCING the engine goes on, in it the drain does. -/
theorem State.endedTo_ends {c : Instr} (hx : x.phase.draining = false)
    (hexec : exec c s = .next (s.endedTo i r x).settle.drainEnded) :
    (s.run.mode ≠ .quiescing → exec c s = .next (s.endedTo i r x).settle)
    ∧ (s.run.mode = .quiescing → s.ModeLaw →
      ((∃ j, j ≠ i ∧ (s.port j).phase.draining = true) → exec c s = .next (s.endedTo i r x))
      ∧ ((∀ j, j ≠ i → (s.port j).phase.draining = false) → exec c s = .next { s.endedTo i r x with
          ports := (s.endedTo i r x).ports.map fun y => { y with phase := .offline }
          run := { s.run with mode := .quiet } })) := by
  rw [hexec]
  refine ⟨fun hm => ?_, fun hm hlaw => ⟨fun h => ?_, fun h => ?_⟩⟩
  · rw [State.drainEnded_of_not_quiescing (by rw [State.settle_run]; exact hm)]
  · rw [State.endedTo_drains hm hlaw h]
  · rw [State.endedTo_last hm hlaw hx h]

end

/-- Settles O42: an answer releases the port and an expiry leaves it FAULTED; then the engine goes on, or the drain. -/
theorem cancellingEnds : Obligations.CancellingEnds := by
  intro i code range s r k c hout answer
  refine ⟨execCancelTimerExpiry_none,
    fun hp hc => ⟨_, exec_answer_cancelling hout hp hc, execCancelTimerExpiry_of_released⟩, fun hp hc => ?_⟩
  refine State.endedTo_ends (x := { s.port i with
    phase := if c ≠ .cancelTimerExpiry i ∧ (s.port i).timeoutCount < 3 then .idle else .faulted }) ?_ ?_
  · simp only
    split <;> rfl
  · rcases hc with hc | ⟨rfl, rfl⟩
    · have hne : c ≠ .cancelTimerExpiry i := by rcases hc with rfl | rfl <;> nofun
      rw [exec_answer_cancelling hout hp hc, SamplePort.released]
      simp only [hne, ne_eq, not_false_eq_true, true_and]
    · rw [if_neg fun h => h.1 rfl]
      exact execCancelTimerExpiry_runOut hout hp

end Sys2Proof.Machine

/-! SUPPORT. What a command's own rule can answer: it accepts, or it refuses and leaves the state as it is. -/

namespace Sys2Proof.Machine

/-- What a rule answers at port `p` in state `s`: OK or EXPIRED with some state, or the state unchanged with a refusal,
which carries data only with HELD and REVISION (R174). -/
inductive State.Responds (s : State) (p : CmdPort) : Answer × State → Prop
  | accepted (data : List Byte) (t : State) : s.Responds p (accept data t)
  | expired (t : State) : s.Responds p (⟨.expired, []⟩, t)
  | refused (st : Status) : s.Responds p (refuse st s)
  | held {h : HoldRecord} (hh : h ∈ s.holds) (hp : h.port ≠ p) :
      s.Responds p (⟨.held, [byteOf (reportedTime h.left)]⟩, s)
  | revision (n : PointNo) : s.Responds p (⟨.revision, bytes16 (s.pt n).revision⟩, s)

section

variable {s : State} {p : CmdPort} {ps : List Byte}

theorem State.Responds.withPoint {i : Nat} {rule : PointNo → State → Answer × State}
    (h : ∀ n, s.Responds p (rule n s)) : s.Responds p (withPoint ps i rule s) := by
  unfold Machine.withPoint
  split
  · exact .refused _
  · exact h _

/-- The hold check refuses with the time left on a hold of the other port (R148, R174). -/
theorem State.Responds.unlessHeld {n : PointNo} {rule : State → Answer × State} (h : s.Responds p (rule s)) :
    s.Responds p (unlessHeld p n rule s) := by
  unfold Machine.unlessHeld
  split
  · rename_i k hk
    have hother := List.find?_some hk
    exact .held (List.mem_of_find?_eq_some hk) (of_decide_eq_true hother).2
  · exact h

/-! ### Each command's own rule -/

theorem defineRule_responds : s.Responds p (defineRule ps s) := by
  unfold defineRule
  simp only
  split
  · exact .refused _
  split
  · exact .refused _
  split
  · exact .refused _
  · exact .accepted ..

theorem findRule_responds : s.Responds p (findRule ps s) := by
  unfold findRule
  split
  · exact .refused _
  · exact .accepted ..

theorem readProfileRule_responds : s.Responds p (readProfileRule ps s) :=
  .withPoint fun n => by
    split
    · exact .refused _
    · exact .accepted ..

theorem State.acceptEdit_responds (n : PointNo) (g : Group) : s.Responds p (s.acceptEdit n g) := by
  unfold State.acceptEdit
  simp only
  split <;> exact .accepted ..

theorem editRule_responds : s.Responds p (editRule p ps s) :=
  .withPoint fun n => .unlessHeld <| by
    split
    · exact .revision n
    split
    · exact .refused _
    split
    · exact s.acceptEdit_responds n _
    · exact .refused _

theorem lifecycleRule_responds (before : PointState) (change : Point → Point) :
    s.Responds p (lifecycleRule p ps before change s) :=
  .withPoint fun n => .unlessHeld <| by
    split
    · exact .accepted ..
    · exact .refused _

theorem readChangedRule_responds : s.Responds p (readChangedRule p ps s) := by
  unfold readChangedRule
  simp only
  split
  · exact .refused _
  · exact .accepted ..

theorem holdRule_responds : s.Responds p (holdRule p ps s) :=
  .withPoint fun n => by
    simp only
    split
    · exact .refused _
    refine .unlessHeld ?_
    split
    · exact .accepted ..
    split
    · exact .refused _
    · exact .accepted ..

theorem releaseRule_responds : s.Responds p (releaseRule p ps s) :=
  .withPoint fun n => by
    split
    · exact .accepted ..
    split
    · exact .expired _
    · exact .refused _

theorem rlistInsertRule_responds : s.Responds p (rlistInsertRule ps s) :=
  .withPoint fun n => by
    simp only
    split
    · exact .refused _
    split
    · exact .refused _
    split
    · exact .refused _
    · exact .accepted ..

theorem rlistRemoveRule_responds : s.Responds p (rlistRemoveRule ps s) :=
  .withPoint fun n => by
    split
    · exact .accepted ..
    · exact .refused _

theorem rlistReadRule_responds : s.Responds p (rlistReadRule ps s) := by
  unfold rlistReadRule
  simp only
  split
  · exact .refused _
  split
  · exact .refused _
  split <;> exact .accepted ..

theorem plistSetRule_responds : s.Responds p (plistSetRule ps s) := by
  unfold plistSetRule
  split
  · exact .refused _
  split
  · exact .refused _
  split
  · exact .refused _
  split
  · exact .accepted ..
  · exact .refused _

theorem plistReadRule_responds : s.Responds p (plistReadRule ps s) := by
  unfold plistReadRule
  simp only
  split
  · exact .refused _
  · exact .accepted ..

theorem scanStartRule_responds : s.Responds p (scanStartRule ps s) := by
  unfold scanStartRule
  split
  · exact .refused _
  split
  · exact .accepted ..
  · exact .refused _

theorem skipPassRule_responds : s.Responds p (skipPassRule s) := by
  unfold skipPassRule
  split
  · exact .accepted ..
  · exact .refused _

theorem abortPointRule_responds : s.Responds p (abortPointRule ps s) :=
  .withPoint fun n => by
    split
    · exact .refused _
    · exact .accepted ..

theorem scanConfigRule_responds : s.Responds p (scanConfigRule ps s) := by
  unfold scanConfigRule
  split
  · exact .refused _
  split
  · exact .refused _
  · exact .accepted ..

theorem condReadRule_responds : s.Responds p (condReadRule ps s) := by
  unfold condReadRule
  simp only
  split
  · exact .refused _
  · exact .accepted ..

theorem ackRule_responds : s.Responds p (ackRule ps s) :=
  .withPoint fun n => by
    split
    · exact .refused _
    · exact .accepted ..

theorem ackUptoRule_responds : s.Responds p (ackUptoRule ps s) := by
  unfold ackUptoRule
  split
  · exact .refused _
  · exact .accepted ..

theorem condClearRule_responds : s.Responds p (condClearRule ps s) :=
  .withPoint fun n => by
    split
    · exact .refused _
    split
    · exact .accepted ..
    · exact .refused _

theorem portConfigRule_responds : s.Responds p (portConfigRule ps s) := by
  unfold portConfigRule
  split
  · split
    · exact .refused _
    split
    · exact .refused _
    · exact .accepted ..
  · exact .refused _

theorem portRestoreRule_responds : s.Responds p (portRestoreRule ps s) := by
  unfold portRestoreRule
  split
  · exact .refused _
  split
  · exact .accepted ..
  · exact .refused _

theorem portStatusRule_responds : s.Responds p (portStatusRule ps s) := by
  unfold portStatusRule
  split
  · exact .accepted ..
  · exact .refused _

theorem clearFlagsRule_responds : s.Responds p (clearFlagsRule ps s) := by
  unfold clearFlagsRule
  split
  · exact .refused _
  · exact .accepted ..

theorem attnMaskRule_responds : s.Responds p (attnMaskRule ps s) := by
  unfold attnMaskRule
  split
  · exact .refused _
  · exact .accepted ..

theorem enterQuietRule_responds : s.Responds p (enterQuietRule s) := by
  unfold enterQuietRule
  split
  · exact .accepted ..
  split
  · exact .refused _
  · exact .accepted ..

theorem exitQuietRule_responds : s.Responds p (exitQuietRule s) := by
  unfold exitQuietRule
  split <;> exact .accepted ..

/-- Every command's own rule accepts, or refuses and leaves the state. -/
theorem ruleOf_responds (c : Cmd) : s.Responds p (ruleOf c p ps s) := by
  cases c with
  | define => exact defineRule_responds
  | find => exact findRule_responds
  | readProfile => exact readProfileRule_responds
  | readValue => exact .withPoint fun _ => .accepted ..
  | edit => exact editRule_responds
  | activate | park | unpark => exact lifecycleRule_responds ..
  | retire => exact .withPoint fun _ => .unlessHeld (.accepted ..)
  | readChanged => exact readChangedRule_responds
  | hold => exact holdRule_responds
  | release => exact releaseRule_responds
  | rlistInsert => exact rlistInsertRule_responds
  | rlistRemove => exact rlistRemoveRule_responds
  | rlistRead => exact rlistReadRule_responds
  | plistSet => exact plistSetRule_responds
  | plistRead => exact plistReadRule_responds
  | scanStart => exact scanStartRule_responds
  | skipPass => exact skipPassRule_responds
  | abortPoint => exact abortPointRule_responds
  | scanConfig => exact scanConfigRule_responds
  | condRead => exact condReadRule_responds
  | ack => exact ackRule_responds
  | ackUpto => exact ackUptoRule_responds
  | condClear => exact condClearRule_responds
  | portConfig => exact portConfigRule_responds
  | portRestore => exact portRestoreRule_responds
  | portStatus => exact portStatusRule_responds
  | clearFlags => exact clearFlagsRule_responds
  | attnMask => exact attnMaskRule_responds
  | enterQuiet => exact enterQuietRule_responds
  | exitQuiet => exact exitQuietRule_responds
  | rlistClear | scanStop | scanHalt | runPriority | scanStatus | status | identify | softReset =>
    exact .accepted ..

/-- The checks before the rule refuse and leave the state (R173, R187). -/
theorem checked_responds (c : Cmd) : s.Responds p (checked c ps (ruleOf c p ps) s) := by
  unfold checked
  split
  · exact .refused _
  split
  · exact ruleOf_responds c
  · exact .refused _

end

/-- The response that an answer leaves at its port (R174). -/
theorem State.answered_response (t : State) (p : CmdPort) (st : Status) (data : List Byte) :
    ((t.answered p st data).cmd p).state = .done ⟨st, (t.cmd p).overlap, data⟩ := by
  rw [State.answered, State.modCmd_cmd_self]
  rfl

/-- Settles O10: a command that is answered neither OK nor EXPIRED was refused by a check or by its rule. -/
theorem refusedCommandsChangeNothing : Obligations.RefusedCommandsChangeNothing := by
  intro c p ps s t r ht hexec hdone hok hexpired
  rw [exec_row, runCommand_eq, if_pos ht, respond_eq] at hexec
  cases hexec
  have hresponds : s.Responds p (checked c ps (ruleOf c p ps) s) := checked_responds c
  generalize checked c ps (ruleOf c p ps) s = answer at hresponds hdone ⊢
  rw [State.answered_response] at hdone
  obtain rfl := CmdPortState.done.inj hdone
  cases hresponds with
  | accepted => exact absurd rfl hok
  | expired => exact absurd rfl hexpired
  | refused => exact ⟨rfl, .inl rfl⟩
  | held hh hp => exact ⟨rfl, .inr (.inl ⟨rfl, _, hh, hp, rfl⟩)⟩
  | revision n => exact ⟨rfl, .inr (.inr ⟨rfl, n, rfl⟩)⟩

end Sys2Proof.Machine
